-- ==== Sys2Proof/Word.lean ====
section
/-! DEFINITION. The word types of the hardware (R10, R14) and the widths of its memory accesses (R112). -/

namespace Sys2Proof

/-- A 32-bit register, address or ARM instruction word (R10). -/
abbrev Word := BitVec 32

/-- A 16-bit halfword: a THUMB instruction, an IO register (R10, R700). -/
abbrev Half := BitVec 16

/-- The smallest addressable unit of memory (R104). -/
abbrev Byte := BitVec 8

/-- A register number R0..R15 as a 4-bit field names it (R40). -/
abbrev RegNo := BitVec 4

/-- A THUMB low register R0..R7 as a 3-bit field names it (R166). -/
abbrev LowReg := BitVec 3

/-- The three access widths (R101, R112). -/
inductive Width
  | byte
  | half
  | word
  deriving DecidableEq, Repr

/-- How many bytes an access of this width covers. -/
def Width.bytes : Width → Nat
  | .byte => 1
  | .half => 2
  | .word => 4

end Sys2Proof
end

