-- ==== Sys2Proof/Syntax.lean ====
section
/-! DEFINITION. The abstract syntax: one constructor of `Instr` for each row of the opcode table (R178). A field is the
bit field of R147..R155 and R166 by name; the bits a rule says are ignored (R145, R228) are kept as the fields
`x1`, `x2`, `x3`, so that no bit of a word is lost. -/

namespace Sys2Proof

/-- The sixteen condition codes (R141), in the order of their values. -/
inductive Cond
  | eq | ne | cs | cc | mi | pl | vs | vc | hi | ls | ge | lt | gt | le | al | nv
  deriving DecidableEq, Repr

/-- The shift types of the shifter operand (R147). -/
inductive Shift
  | lsl | lsr | asr | ror
  deriving DecidableEq, Repr

/-- The offset of a halfword or signed transfer (R151): an immediate in two nibbles (F-A12), or a register with four
ignored bits (F-A11). -/
inductive HalfOff
  | imm (hi lo : BitVec 4)
  | reg (x : BitVec 4) (rm : RegNo)
  deriving DecidableEq, Repr

/-- Bit 22 of a halfword or signed transfer: 1 for the immediate form (R151). -/
def HalfOff.isImm : HalfOff → Bool
  | .imm _ _ => true
  | .reg _ _ => false

/-- Bits 11:8 of a halfword or signed transfer. -/
def HalfOff.hi : HalfOff → BitVec 4
  | .imm h _ => h
  | .reg x _ => x

/-- Bits 3:0 of a halfword or signed transfer. -/
def HalfOff.lo : HalfOff → BitVec 4
  | .imm _ l => l
  | .reg _ rm => rm

/-- The two instruction sets (R140). -/
inductive Isa
  | arm
  | thumb
  deriving DecidableEq, Repr

/-- An instruction: one constructor for each row of spec/opcode_table.json. -/
inductive Instr
  /-- AND__imm, F-A3 (R230). -/
  | andImm (c : Cond) (S : Bool) (rn rd : RegNo) (rot : BitVec 4) (imm : BitVec 8)
  /-- AND__reg__imm_shift, F-A1 (R230). -/
  | andShiftImm (c : Cond) (S : Bool) (rn rd : RegNo) (n : BitVec 5) (t : Shift) (rm : RegNo)
  /-- AND__reg__reg_shift, F-A2 (R230). -/
  | andShiftReg (c : Cond) (S : Bool) (rn rd rs : RegNo) (t : Shift) (rm : RegNo)
  /-- EOR__imm, F-A3 (R231). -/
  | eorImm (c : Cond) (S : Bool) (rn rd : RegNo) (rot : BitVec 4) (imm : BitVec 8)
  /-- EOR__reg__imm_shift, F-A1 (R231). -/
  | eorShiftImm (c : Cond) (S : Bool) (rn rd : RegNo) (n : BitVec 5) (t : Shift) (rm : RegNo)
  /-- EOR__reg__reg_shift, F-A2 (R231). -/
  | eorShiftReg (c : Cond) (S : Bool) (rn rd rs : RegNo) (t : Shift) (rm : RegNo)
  /-- SUB__imm, F-A3 (R232). -/
  | subImm (c : Cond) (S : Bool) (rn rd : RegNo) (rot : BitVec 4) (imm : BitVec 8)
  /-- SUB__reg__imm_shift, F-A1 (R232). -/
  | subShiftImm (c : Cond) (S : Bool) (rn rd : RegNo) (n : BitVec 5) (t : Shift) (rm : RegNo)
  /-- SUB__reg__reg_shift, F-A2 (R232). -/
  | subShiftReg (c : Cond) (S : Bool) (rn rd rs : RegNo) (t : Shift) (rm : RegNo)
  /-- RSB__imm, F-A3 (R233). -/
  | rsbImm (c : Cond) (S : Bool) (rn rd : RegNo) (rot : BitVec 4) (imm : BitVec 8)
  /-- RSB__reg__imm_shift, F-A1 (R233). -/
  | rsbShiftImm (c : Cond) (S : Bool) (rn rd : RegNo) (n : BitVec 5) (t : Shift) (rm : RegNo)
  /-- RSB__reg__reg_shift, F-A2 (R233). -/
  | rsbShiftReg (c : Cond) (S : Bool) (rn rd rs : RegNo) (t : Shift) (rm : RegNo)
  /-- ADD__imm, F-A3 (R234). -/
  | addImm (c : Cond) (S : Bool) (rn rd : RegNo) (rot : BitVec 4) (imm : BitVec 8)
  /-- ADD__reg__imm_shift, F-A1 (R234). -/
  | addShiftImm (c : Cond) (S : Bool) (rn rd : RegNo) (n : BitVec 5) (t : Shift) (rm : RegNo)
  /-- ADD__reg__reg_shift, F-A2 (R234). -/
  | addShiftReg (c : Cond) (S : Bool) (rn rd rs : RegNo) (t : Shift) (rm : RegNo)
  /-- ADC__imm, F-A3 (R235). -/
  | adcImm (c : Cond) (S : Bool) (rn rd : RegNo) (rot : BitVec 4) (imm : BitVec 8)
  /-- ADC__reg__imm_shift, F-A1 (R235). -/
  | adcShiftImm (c : Cond) (S : Bool) (rn rd : RegNo) (n : BitVec 5) (t : Shift) (rm : RegNo)
  /-- ADC__reg__reg_shift, F-A2 (R235). -/
  | adcShiftReg (c : Cond) (S : Bool) (rn rd rs : RegNo) (t : Shift) (rm : RegNo)
  /-- SBC__imm, F-A3 (R236). -/
  | sbcImm (c : Cond) (S : Bool) (rn rd : RegNo) (rot : BitVec 4) (imm : BitVec 8)
  /-- SBC__reg__imm_shift, F-A1 (R236). -/
  | sbcShiftImm (c : Cond) (S : Bool) (rn rd : RegNo) (n : BitVec 5) (t : Shift) (rm : RegNo)
  /-- SBC__reg__reg_shift, F-A2 (R236). -/
  | sbcShiftReg (c : Cond) (S : Bool) (rn rd rs : RegNo) (t : Shift) (rm : RegNo)
  /-- RSC__imm, F-A3 (R237). -/
  | rscImm (c : Cond) (S : Bool) (rn rd : RegNo) (rot : BitVec 4) (imm : BitVec 8)
  /-- RSC__reg__imm_shift, F-A1 (R237). -/
  | rscShiftImm (c : Cond) (S : Bool) (rn rd : RegNo) (n : BitVec 5) (t : Shift) (rm : RegNo)
  /-- RSC__reg__reg_shift, F-A2 (R237). -/
  | rscShiftReg (c : Cond) (S : Bool) (rn rd rs : RegNo) (t : Shift) (rm : RegNo)
  /-- TST__imm, F-A3 (R238). -/
  | tstImm (c : Cond) (rn rd : RegNo) (rot : BitVec 4) (imm : BitVec 8)
  /-- TST__reg__imm_shift, F-A1 (R238). -/
  | tstShiftImm (c : Cond) (rn rd : RegNo) (n : BitVec 5) (t : Shift) (rm : RegNo)
  /-- TST__reg__reg_shift, F-A2 (R238). -/
  | tstShiftReg (c : Cond) (rn rd rs : RegNo) (t : Shift) (rm : RegNo)
  /-- TEQ__imm, F-A3 (R239). -/
  | teqImm (c : Cond) (rn rd : RegNo) (rot : BitVec 4) (imm : BitVec 8)
  /-- TEQ__reg__imm_shift, F-A1 (R239). -/
  | teqShiftImm (c : Cond) (rn rd : RegNo) (n : BitVec 5) (t : Shift) (rm : RegNo)
  /-- TEQ__reg__reg_shift, F-A2 (R239). -/
  | teqShiftReg (c : Cond) (rn rd rs : RegNo) (t : Shift) (rm : RegNo)
  /-- CMP__imm, F-A3 (R240). -/
  | cmpImm (c : Cond) (rn rd : RegNo) (rot : BitVec 4) (imm : BitVec 8)
  /-- CMP__reg__imm_shift, F-A1 (R240). -/
  | cmpShiftImm (c : Cond) (rn rd : RegNo) (n : BitVec 5) (t : Shift) (rm : RegNo)
  /-- CMP__reg__reg_shift, F-A2 (R240). -/
  | cmpShiftReg (c : Cond) (rn rd rs : RegNo) (t : Shift) (rm : RegNo)
  /-- CMN__imm, F-A3 (R241). -/
  | cmnImm (c : Cond) (rn rd : RegNo) (rot : BitVec 4) (imm : BitVec 8)
  /-- CMN__reg__imm_shift, F-A1 (R241). -/
  | cmnShiftImm (c : Cond) (rn rd : RegNo) (n : BitVec 5) (t : Shift) (rm : RegNo)
  /-- CMN__reg__reg_shift, F-A2 (R241). -/
  | cmnShiftReg (c : Cond) (rn rd rs : RegNo) (t : Shift) (rm : RegNo)
  /-- ORR__imm, F-A3 (R242). -/
  | orrImm (c : Cond) (S : Bool) (rn rd : RegNo) (rot : BitVec 4) (imm : BitVec 8)
  /-- ORR__reg__imm_shift, F-A1 (R242). -/
  | orrShiftImm (c : Cond) (S : Bool) (rn rd : RegNo) (n : BitVec 5) (t : Shift) (rm : RegNo)
  /-- ORR__reg__reg_shift, F-A2 (R242). -/
  | orrShiftReg (c : Cond) (S : Bool) (rn rd rs : RegNo) (t : Shift) (rm : RegNo)
  /-- MOV__imm, F-A3 (R243). -/
  | movImm (c : Cond) (S : Bool) (rn rd : RegNo) (rot : BitVec 4) (imm : BitVec 8)
  /-- MOV__reg__imm_shift, F-A1 (R243). -/
  | movShiftImm (c : Cond) (S : Bool) (rn rd : RegNo) (n : BitVec 5) (t : Shift) (rm : RegNo)
  /-- MOV__reg__reg_shift, F-A2 (R243). -/
  | movShiftReg (c : Cond) (S : Bool) (rn rd rs : RegNo) (t : Shift) (rm : RegNo)
  /-- BIC__imm, F-A3 (R244). -/
  | bicImm (c : Cond) (S : Bool) (rn rd : RegNo) (rot : BitVec 4) (imm : BitVec 8)
  /-- BIC__reg__imm_shift, F-A1 (R244). -/
  | bicShiftImm (c : Cond) (S : Bool) (rn rd : RegNo) (n : BitVec 5) (t : Shift) (rm : RegNo)
  /-- BIC__reg__reg_shift, F-A2 (R244). -/
  | bicShiftReg (c : Cond) (S : Bool) (rn rd rs : RegNo) (t : Shift) (rm : RegNo)
  /-- MVN__imm, F-A3 (R245). -/
  | mvnImm (c : Cond) (S : Bool) (rn rd : RegNo) (rot : BitVec 4) (imm : BitVec 8)
  /-- MVN__reg__imm_shift, F-A1 (R245). -/
  | mvnShiftImm (c : Cond) (S : Bool) (rn rd : RegNo) (n : BitVec 5) (t : Shift) (rm : RegNo)
  /-- MVN__reg__reg_shift, F-A2 (R245). -/
  | mvnShiftReg (c : Cond) (S : Bool) (rn rd rs : RegNo) (t : Shift) (rm : RegNo)
  /-- MRS, F-A4 (R280). -/
  | mrs (c : Cond) (R : Bool) (x1 : BitVec 4) (rd : RegNo) (x2 x3 : BitVec 4)
  /-- MSR__reg, F-A5 (R282). -/
  | msrReg (c : Cond) (R : Bool) (f x1 x2 : BitVec 4) (rm : RegNo)
  /-- MSR__imm, F-A6 (R283). -/
  | msrImm (c : Cond) (R : Bool) (f x1 rot : BitVec 4) (imm : BitVec 8)
  /-- BX, F-A10 (R202). -/
  | bx (c : Cond) (x1 : BitVec 12) (rm : RegNo)
  /-- MUL, F-A7 (R291). -/
  | mul (c : Cond) (S : Bool) (rd rn rs rm : RegNo)
  /-- MLA, F-A7 (R292). -/
  | mla (c : Cond) (S : Bool) (rd rn rs rm : RegNo)
  /-- UMULL, F-A8 (R293). -/
  | umull (c : Cond) (S : Bool) (rdHi rdLo rs rm : RegNo)
  /-- UMLAL, F-A8 (R294). -/
  | umlal (c : Cond) (S : Bool) (rdHi rdLo rs rm : RegNo)
  /-- SMULL, F-A8 (R295). -/
  | smull (c : Cond) (S : Bool) (rdHi rdLo rs rm : RegNo)
  /-- SMLAL, F-A8 (R296). -/
  | smlal (c : Cond) (S : Bool) (rdHi rdLo rs rm : RegNo)
  /-- SWP, F-A9 (R350). -/
  | swp (c : Cond) (rn rd : RegNo) (x1 : BitVec 4) (rm : RegNo)
  /-- SWPB, F-A9 (R351). -/
  | swpb (c : Cond) (rn rd : RegNo) (x1 : BitVec 4) (rm : RegNo)
  /-- UNDEF_U1, U1 (R385). -/
  | undefU1 (c : Cond) (op : BitVec 5) (x1 : BitVec 12) (x2 : BitVec 4)
  /-- STRH, F-A11/F-A12 (R332). -/
  | strh (c : Cond) (p u w : Bool) (rn rd : RegNo) (off : HalfOff)
  /-- LDRH, F-A11/F-A12 (R331). -/
  | ldrh (c : Cond) (p u w : Bool) (rn rd : RegNo) (off : HalfOff)
  /-- LDRSB, F-A11/F-A12 (R333). -/
  | ldrsb (c : Cond) (p u w : Bool) (rn rd : RegNo) (off : HalfOff)
  /-- LDRSH, F-A11/F-A12 (R334). -/
  | ldrsh (c : Cond) (p u w : Bool) (rn rd : RegNo) (off : HalfOff)
  /-- UNDEF_U2, U2 (R385). -/
  | undefU2 (c : Cond) (op : BitVec 4) (x1 : BitVec 12) (h : Bool) (x2 : BitVec 4)
  /-- UNDEF_U3, U3 (R385). -/
  | undefU3 (c : Cond) (op : BitVec 2) (x1 : BitVec 12) (lo x2 : BitVec 4)
  /-- UNDEF_U4, U4 (R385). -/
  | undefU4 (c : Cond) (R : Bool) (x1 : BitVec 20)
  /-- LDR__imm__pre, F-A13 (R322). -/
  | ldrImmPre (c : Cond) (u w : Bool) (rn rd : RegNo) (off : BitVec 12)
  /-- LDR__imm__post, F-A13 (R322). -/
  | ldrImmPost (c : Cond) (u : Bool) (rn rd : RegNo) (off : BitVec 12)
  /-- LDR__reg__pre, F-A14 (R322). -/
  | ldrRegPre (c : Cond) (u w : Bool) (rn rd : RegNo) (n : BitVec 5) (t : Shift) (rm : RegNo)
  /-- LDR__reg__post, F-A14 (R322). -/
  | ldrRegPost (c : Cond) (u : Bool) (rn rd : RegNo) (n : BitVec 5) (t : Shift) (rm : RegNo)
  /-- STR__imm__pre, F-A13 (R323). -/
  | strImmPre (c : Cond) (u w : Bool) (rn rd : RegNo) (off : BitVec 12)
  /-- STR__imm__post, F-A13 (R323). -/
  | strImmPost (c : Cond) (u : Bool) (rn rd : RegNo) (off : BitVec 12)
  /-- STR__reg__pre, F-A14 (R323). -/
  | strRegPre (c : Cond) (u w : Bool) (rn rd : RegNo) (n : BitVec 5) (t : Shift) (rm : RegNo)
  /-- STR__reg__post, F-A14 (R323). -/
  | strRegPost (c : Cond) (u : Bool) (rn rd : RegNo) (n : BitVec 5) (t : Shift) (rm : RegNo)
  /-- LDRB__imm__pre, F-A13 (R324). -/
  | ldrbImmPre (c : Cond) (u w : Bool) (rn rd : RegNo) (off : BitVec 12)
  /-- LDRB__imm__post, F-A13 (R324). -/
  | ldrbImmPost (c : Cond) (u : Bool) (rn rd : RegNo) (off : BitVec 12)
  /-- LDRB__reg__pre, F-A14 (R324). -/
  | ldrbRegPre (c : Cond) (u w : Bool) (rn rd : RegNo) (n : BitVec 5) (t : Shift) (rm : RegNo)
  /-- LDRB__reg__post, F-A14 (R324). -/
  | ldrbRegPost (c : Cond) (u : Bool) (rn rd : RegNo) (n : BitVec 5) (t : Shift) (rm : RegNo)
  /-- STRB__imm__pre, F-A13 (R325). -/
  | strbImmPre (c : Cond) (u w : Bool) (rn rd : RegNo) (off : BitVec 12)
  /-- STRB__imm__post, F-A13 (R325). -/
  | strbImmPost (c : Cond) (u : Bool) (rn rd : RegNo) (off : BitVec 12)
  /-- STRB__reg__pre, F-A14 (R325). -/
  | strbRegPre (c : Cond) (u w : Bool) (rn rd : RegNo) (n : BitVec 5) (t : Shift) (rm : RegNo)
  /-- STRB__reg__post, F-A14 (R325). -/
  | strbRegPost (c : Cond) (u : Bool) (rn rd : RegNo) (n : BitVec 5) (t : Shift) (rm : RegNo)
  /-- LDRT__imm, F-A13 (R326). -/
  | ldrtImm (c : Cond) (u : Bool) (rn rd : RegNo) (off : BitVec 12)
  /-- LDRT__reg, F-A14 (R326). -/
  | ldrtReg (c : Cond) (u : Bool) (rn rd : RegNo) (n : BitVec 5) (t : Shift) (rm : RegNo)
  /-- STRT__imm, F-A13 (R327). -/
  | strtImm (c : Cond) (u : Bool) (rn rd : RegNo) (off : BitVec 12)
  /-- STRT__reg, F-A14 (R327). -/
  | strtReg (c : Cond) (u : Bool) (rn rd : RegNo) (n : BitVec 5) (t : Shift) (rm : RegNo)
  /-- LDRBT__imm, F-A13 (R328). -/
  | ldrbtImm (c : Cond) (u : Bool) (rn rd : RegNo) (off : BitVec 12)
  /-- LDRBT__reg, F-A14 (R328). -/
  | ldrbtReg (c : Cond) (u : Bool) (rn rd : RegNo) (n : BitVec 5) (t : Shift) (rm : RegNo)
  /-- STRBT__imm, F-A13 (R329). -/
  | strbtImm (c : Cond) (u : Bool) (rn rd : RegNo) (off : BitVec 12)
  /-- STRBT__reg, F-A14 (R329). -/
  | strbtReg (c : Cond) (u : Bool) (rn rd : RegNo) (n : BitVec 5) (t : Shift) (rm : RegNo)
  /-- UNDEF_U5, F-A15 (R385). -/
  | undefU5 (c : Cond) (x1 : BitVec 20) (x2 : BitVec 4)
  /-- LDM, F-A16 (R341). -/
  | ldm (c : Cond) (p u S w : Bool) (rn : RegNo) (l : BitVec 16)
  /-- STM, F-A16 (R342). -/
  | stm (c : Cond) (p u S w : Bool) (rn : RegNo) (l : BitVec 16)
  /-- B, F-A17 (R200). -/
  | b (c : Cond) (off : BitVec 24)
  /-- BL, F-A17 (R201). -/
  | bl (c : Cond) (off : BitVec 24)
  /-- LDC, F-A18 (R384). -/
  | ldc (c : Cond) (p u n w : Bool) (rn : RegNo) (crd cp : BitVec 4) (off : BitVec 8)
  /-- STC, F-A18 (R386). -/
  | stc (c : Cond) (p u n w : Bool) (rn : RegNo) (crd cp : BitVec 4) (off : BitVec 8)
  /-- CDP, F-A19 (R383). -/
  | cdp (c : Cond) (opc crn crd cp : BitVec 4) (info : BitVec 3) (crm : BitVec 4)
  /-- MCR, F-A20 (R387). -/
  | mcr (c : Cond) (opc : BitVec 3) (crn : BitVec 4) (rd : RegNo) (cp : BitVec 4) (info : BitVec 3) (crm : BitVec 4)
  /-- MRC, F-A20 (R388). -/
  | mrc (c : Cond) (opc : BitVec 3) (crn : BitVec 4) (rd : RegNo) (cp : BitVec 4) (info : BitVec 3) (crm : BitVec 4)
  /-- SWI, F-A21 (R380). -/
  | swi (c : Cond) (comment : BitVec 24)
  /-- T_LSL__imm, format 1 (R400). -/
  | tLslImm (off : BitVec 5) (rs rd : LowReg)
  /-- T_LSR__imm, format 1 (R401). -/
  | tLsrImm (off : BitVec 5) (rs rd : LowReg)
  /-- T_ASR__imm, format 1 (R402). -/
  | tAsrImm (off : BitVec 5) (rs rd : LowReg)
  /-- T_ADD__reg, format 2 (R403). -/
  | tAddReg (rn rs rd : LowReg)
  /-- T_SUB__reg, format 2 (R404). -/
  | tSubReg (rn rs rd : LowReg)
  /-- T_ADD__imm3, format 2 (R405). -/
  | tAddImm3 (imm : BitVec 3) (rs rd : LowReg)
  /-- T_SUB__imm3, format 2 (R406). -/
  | tSubImm3 (imm : BitVec 3) (rs rd : LowReg)
  /-- T_MOV__imm8, format 3 (R407). -/
  | tMovImm8 (rd : LowReg) (imm : BitVec 8)
  /-- T_CMP__imm8, format 3 (R408). -/
  | tCmpImm8 (rd : LowReg) (imm : BitVec 8)
  /-- T_ADD__imm8, format 3 (R409). -/
  | tAddImm8 (rd : LowReg) (imm : BitVec 8)
  /-- T_SUB__imm8, format 3 (R410). -/
  | tSubImm8 (rd : LowReg) (imm : BitVec 8)
  /-- T_AND, format 4 (R411). -/
  | tAnd (rs rd : LowReg)
  /-- T_EOR, format 4 (R412). -/
  | tEor (rs rd : LowReg)
  /-- T_LSL, format 4 (R413). -/
  | tLsl (rs rd : LowReg)
  /-- T_LSR, format 4 (R414). -/
  | tLsr (rs rd : LowReg)
  /-- T_ASR, format 4 (R415). -/
  | tAsr (rs rd : LowReg)
  /-- T_ADC, format 4 (R416). -/
  | tAdc (rs rd : LowReg)
  /-- T_SBC, format 4 (R417). -/
  | tSbc (rs rd : LowReg)
  /-- T_ROR, format 4 (R418). -/
  | tRor (rs rd : LowReg)
  /-- T_TST, format 4 (R419). -/
  | tTst (rs rd : LowReg)
  /-- T_NEG, format 4 (R420). -/
  | tNeg (rs rd : LowReg)
  /-- T_CMP, format 4 (R421). -/
  | tCmp (rs rd : LowReg)
  /-- T_CMN, format 4 (R422). -/
  | tCmn (rs rd : LowReg)
  /-- T_ORR, format 4 (R423). -/
  | tOrr (rs rd : LowReg)
  /-- T_MUL, format 4 (R424). -/
  | tMul (rs rd : LowReg)
  /-- T_BIC, format 4 (R425). -/
  | tBic (rs rd : LowReg)
  /-- T_MVN, format 4 (R426). -/
  | tMvn (rs rd : LowReg)
  /-- T_ADD__hi, format 5 (R430). -/
  | tAddHi (h1 h2 : Bool) (rs rd : LowReg)
  /-- T_CMP__hi, format 5 (R431). -/
  | tCmpHi (h1 h2 : Bool) (rs rd : LowReg)
  /-- T_MOV__hi, format 5 (R432). -/
  | tMovHi (h1 h2 : Bool) (rs rd : LowReg)
  /-- T_BX, format 5 (R433). -/
  | tBx (h1 h2 : Bool) (rs : LowReg) (x1 : BitVec 3)
  /-- T_LDR__PC-rel, format 6 (R460). -/
  | tLdrPc (rd : LowReg) (word8 : BitVec 8)
  /-- T_STR__reg, format 7 (R462). -/
  | tStrReg (ro rb rd : LowReg)
  /-- T_STRB__reg, format 7 (R463). -/
  | tStrbReg (ro rb rd : LowReg)
  /-- T_LDR__reg, format 7 (R464). -/
  | tLdrReg (ro rb rd : LowReg)
  /-- T_LDRB__reg, format 7 (R465). -/
  | tLdrbReg (ro rb rd : LowReg)
  /-- T_STRH__reg, format 8 (R466). -/
  | tStrhReg (ro rb rd : LowReg)
  /-- T_LDSB__reg, format 8 (R467). -/
  | tLdsbReg (ro rb rd : LowReg)
  /-- T_LDRH__reg, format 8 (R468). -/
  | tLdrhReg (ro rb rd : LowReg)
  /-- T_LDSH__reg, format 8 (R469). -/
  | tLdshReg (ro rb rd : LowReg)
  /-- T_STR__imm, format 9 (R470). -/
  | tStrImm (off : BitVec 5) (rb rd : LowReg)
  /-- T_LDR__imm, format 9 (R471). -/
  | tLdrImm (off : BitVec 5) (rb rd : LowReg)
  /-- T_STRB__imm, format 9 (R472). -/
  | tStrbImm (off : BitVec 5) (rb rd : LowReg)
  /-- T_LDRB__imm, format 9 (R473). -/
  | tLdrbImm (off : BitVec 5) (rb rd : LowReg)
  /-- T_STRH__imm, format 10 (R474). -/
  | tStrhImm (off : BitVec 5) (rb rd : LowReg)
  /-- T_LDRH__imm, format 10 (R475). -/
  | tLdrhImm (off : BitVec 5) (rb rd : LowReg)
  /-- T_STR__SP-rel, format 11 (R476). -/
  | tStrSp (rd : LowReg) (word8 : BitVec 8)
  /-- T_LDR__SP-rel, format 11 (R477). -/
  | tLdrSp (rd : LowReg) (word8 : BitVec 8)
  /-- T_ADD__PC-rel, format 12 (R435). -/
  | tAddPc (rd : LowReg) (word8 : BitVec 8)
  /-- T_ADD__SP-rel, format 12 (R436). -/
  | tAddSp (rd : LowReg) (word8 : BitVec 8)
  /-- T_ADD_SP__imm, format 13 (R437). -/
  | tAddSpImm (sword7 : BitVec 7)
  /-- T_SUB_SP__imm, format 13 (R438). -/
  | tSubSpImm (sword7 : BitVec 7)
  /-- T_PUSH, format 14 (R480). -/
  | tPush (R : Bool) (l : BitVec 8)
  /-- T_POP, format 14 (R481). -/
  | tPop (R : Bool) (l : BitVec 8)
  /-- T_UNDEF_T-U1a, T-U1 (R506). -/
  | tUndefU1a (x1 : BitVec 8)
  /-- T_UNDEF_T-U1b, T-U1 (R506). -/
  | tUndefU1b (x1 : BitVec 9)
  /-- T_UNDEF_T-U1c, T-U1 (R506). -/
  | tUndefU1c (x1 : BitVec 9)
  /-- T_UNDEF_T-U1d, T-U1 (R506). -/
  | tUndefU1d (x1 : BitVec 10)
  /-- T_UNDEF_T-U1e, T-U1 (R506). -/
  | tUndefU1e (x1 : BitVec 9)
  /-- T_STMIA, format 15 (R482). -/
  | tStmia (rb : LowReg) (l : BitVec 8)
  /-- T_LDMIA, format 15 (R483). -/
  | tLdmia (rb : LowReg) (l : BitVec 8)
  /-- T_BEQ, format 16 (R500). -/
  | tBEq (off : BitVec 8)
  /-- T_BNE, format 16 (R500). -/
  | tBNe (off : BitVec 8)
  /-- T_BCS, format 16 (R500). -/
  | tBCs (off : BitVec 8)
  /-- T_BCC, format 16 (R500). -/
  | tBCc (off : BitVec 8)
  /-- T_BMI, format 16 (R500). -/
  | tBMi (off : BitVec 8)
  /-- T_BPL, format 16 (R500). -/
  | tBPl (off : BitVec 8)
  /-- T_BVS, format 16 (R500). -/
  | tBVs (off : BitVec 8)
  /-- T_BVC, format 16 (R500). -/
  | tBVc (off : BitVec 8)
  /-- T_BHI, format 16 (R500). -/
  | tBHi (off : BitVec 8)
  /-- T_BLS, format 16 (R500). -/
  | tBLs (off : BitVec 8)
  /-- T_BGE, format 16 (R500). -/
  | tBGe (off : BitVec 8)
  /-- T_BLT, format 16 (R500). -/
  | tBLt (off : BitVec 8)
  /-- T_BGT, format 16 (R500). -/
  | tBGt (off : BitVec 8)
  /-- T_BLE, format 16 (R500). -/
  | tBLe (off : BitVec 8)
  /-- T_UNDEF_T-U2, T-U2 (R506). -/
  | tUndefU2 (x1 : BitVec 8)
  /-- T_SWI, format 17 (R501). -/
  | tSwi (value : BitVec 8)
  /-- T_B, format 18 (R502). -/
  | tB (off : BitVec 11)
  /-- T_UNDEF_T-U3, T-U3 (R506). -/
  | tUndefU3 (x1 : BitVec 11)
  /-- T_BL__prefix, format 19 (R504). -/
  | tBlPrefix (off : BitVec 11)
  /-- T_BL__suffix, format 19 (R505). -/
  | tBlSuffix (off : BitVec 11)
  deriving DecidableEq, Repr

end Sys2Proof
end

