-- ==== Sys2Proof/WellFormed.lean ====
section
/-! DEFINITION. Which instructions are well formed. The fields' widths are in their types, so what is left to check
is that the fallback rows of the table, U1 and U3 (R178), hold no word that another row names. -/

namespace Sys2Proof

/-- Bits 24:20 of a word of the multiply and swap space that is unallocated (R175 U1): not MUL or MLA (24:22 = 000),
not a long multiply (24:23 = 01), not SWP or SWPB. -/
def u1Op (op : BitVec 5) : Bool :=
  !(op.extractLsb' 2 3 == 0b000#3 || op.extractLsb' 3 2 == 0b01#2 || op == 0b10000#5 || op == 0b10100#5)

/-- Bits 22:21 and 7:4 of a word of the miscellaneous space that is unallocated (R175 U3). Bits 7:4 = 1001 belong to
the multiply and swap space for every value of bits 22:21, since R146 tests them first. -/
def u3Ok (op : BitVec 2) (lo : BitVec 4) : Bool :=
  !(lo == 0b0000#4 || (lo.getLsbD 3 && lo.getLsbD 0) || (op == 0b01#2 && lo == 0b0001#4))

/-- An instruction that some word encodes. -/
def Instr.wf : Instr → Bool
  | .andImm _ _ _ _ _ _ => true
  | .andShiftImm _ _ _ _ _ _ _ => true
  | .andShiftReg _ _ _ _ _ _ _ => true
  | .eorImm _ _ _ _ _ _ => true
  | .eorShiftImm _ _ _ _ _ _ _ => true
  | .eorShiftReg _ _ _ _ _ _ _ => true
  | .subImm _ _ _ _ _ _ => true
  | .subShiftImm _ _ _ _ _ _ _ => true
  | .subShiftReg _ _ _ _ _ _ _ => true
  | .rsbImm _ _ _ _ _ _ => true
  | .rsbShiftImm _ _ _ _ _ _ _ => true
  | .rsbShiftReg _ _ _ _ _ _ _ => true
  | .addImm _ _ _ _ _ _ => true
  | .addShiftImm _ _ _ _ _ _ _ => true
  | .addShiftReg _ _ _ _ _ _ _ => true
  | .adcImm _ _ _ _ _ _ => true
  | .adcShiftImm _ _ _ _ _ _ _ => true
  | .adcShiftReg _ _ _ _ _ _ _ => true
  | .sbcImm _ _ _ _ _ _ => true
  | .sbcShiftImm _ _ _ _ _ _ _ => true
  | .sbcShiftReg _ _ _ _ _ _ _ => true
  | .rscImm _ _ _ _ _ _ => true
  | .rscShiftImm _ _ _ _ _ _ _ => true
  | .rscShiftReg _ _ _ _ _ _ _ => true
  | .tstImm _ _ _ _ _ => true
  | .tstShiftImm _ _ _ _ _ _ => true
  | .tstShiftReg _ _ _ _ _ _ => true
  | .teqImm _ _ _ _ _ => true
  | .teqShiftImm _ _ _ _ _ _ => true
  | .teqShiftReg _ _ _ _ _ _ => true
  | .cmpImm _ _ _ _ _ => true
  | .cmpShiftImm _ _ _ _ _ _ => true
  | .cmpShiftReg _ _ _ _ _ _ => true
  | .cmnImm _ _ _ _ _ => true
  | .cmnShiftImm _ _ _ _ _ _ => true
  | .cmnShiftReg _ _ _ _ _ _ => true
  | .orrImm _ _ _ _ _ _ => true
  | .orrShiftImm _ _ _ _ _ _ _ => true
  | .orrShiftReg _ _ _ _ _ _ _ => true
  | .movImm _ _ _ _ _ _ => true
  | .movShiftImm _ _ _ _ _ _ _ => true
  | .movShiftReg _ _ _ _ _ _ _ => true
  | .bicImm _ _ _ _ _ _ => true
  | .bicShiftImm _ _ _ _ _ _ _ => true
  | .bicShiftReg _ _ _ _ _ _ _ => true
  | .mvnImm _ _ _ _ _ _ => true
  | .mvnShiftImm _ _ _ _ _ _ _ => true
  | .mvnShiftReg _ _ _ _ _ _ _ => true
  | .mrs _ _ _ _ _ _ => true
  | .msrReg _ _ _ _ _ _ => true
  | .msrImm _ _ _ _ _ _ => true
  | .bx _ _ _ => true
  | .mul _ _ _ _ _ _ => true
  | .mla _ _ _ _ _ _ => true
  | .umull _ _ _ _ _ _ => true
  | .umlal _ _ _ _ _ _ => true
  | .smull _ _ _ _ _ _ => true
  | .smlal _ _ _ _ _ _ => true
  | .swp _ _ _ _ _ => true
  | .swpb _ _ _ _ _ => true
  | .undefU1 _ op _ _ => u1Op op
  | .strh _ _ _ _ _ _ _ => true
  | .ldrh _ _ _ _ _ _ _ => true
  | .ldrsb _ _ _ _ _ _ _ => true
  | .ldrsh _ _ _ _ _ _ _ => true
  | .undefU2 _ _ _ _ _ => true
  | .undefU3 _ op _ lo _ => u3Ok op lo
  | .undefU4 _ _ _ => true
  | .ldrImmPre _ _ _ _ _ _ => true
  | .ldrImmPost _ _ _ _ _ => true
  | .ldrRegPre _ _ _ _ _ _ _ _ => true
  | .ldrRegPost _ _ _ _ _ _ _ => true
  | .strImmPre _ _ _ _ _ _ => true
  | .strImmPost _ _ _ _ _ => true
  | .strRegPre _ _ _ _ _ _ _ _ => true
  | .strRegPost _ _ _ _ _ _ _ => true
  | .ldrbImmPre _ _ _ _ _ _ => true
  | .ldrbImmPost _ _ _ _ _ => true
  | .ldrbRegPre _ _ _ _ _ _ _ _ => true
  | .ldrbRegPost _ _ _ _ _ _ _ => true
  | .strbImmPre _ _ _ _ _ _ => true
  | .strbImmPost _ _ _ _ _ => true
  | .strbRegPre _ _ _ _ _ _ _ _ => true
  | .strbRegPost _ _ _ _ _ _ _ => true
  | .ldrtImm _ _ _ _ _ => true
  | .ldrtReg _ _ _ _ _ _ _ => true
  | .strtImm _ _ _ _ _ => true
  | .strtReg _ _ _ _ _ _ _ => true
  | .ldrbtImm _ _ _ _ _ => true
  | .ldrbtReg _ _ _ _ _ _ _ => true
  | .strbtImm _ _ _ _ _ => true
  | .strbtReg _ _ _ _ _ _ _ => true
  | .undefU5 _ _ _ => true
  | .ldm _ _ _ _ _ _ _ => true
  | .stm _ _ _ _ _ _ _ => true
  | .b _ _ => true
  | .bl _ _ => true
  | .ldc _ _ _ _ _ _ _ _ _ => true
  | .stc _ _ _ _ _ _ _ _ _ => true
  | .cdp _ _ _ _ _ _ _ => true
  | .mcr _ _ _ _ _ _ _ => true
  | .mrc _ _ _ _ _ _ _ => true
  | .swi _ _ => true
  | .tLslImm _ _ _ => true
  | .tLsrImm _ _ _ => true
  | .tAsrImm _ _ _ => true
  | .tAddReg _ _ _ => true
  | .tSubReg _ _ _ => true
  | .tAddImm3 _ _ _ => true
  | .tSubImm3 _ _ _ => true
  | .tMovImm8 _ _ => true
  | .tCmpImm8 _ _ => true
  | .tAddImm8 _ _ => true
  | .tSubImm8 _ _ => true
  | .tAnd _ _ => true
  | .tEor _ _ => true
  | .tLsl _ _ => true
  | .tLsr _ _ => true
  | .tAsr _ _ => true
  | .tAdc _ _ => true
  | .tSbc _ _ => true
  | .tRor _ _ => true
  | .tTst _ _ => true
  | .tNeg _ _ => true
  | .tCmp _ _ => true
  | .tCmn _ _ => true
  | .tOrr _ _ => true
  | .tMul _ _ => true
  | .tBic _ _ => true
  | .tMvn _ _ => true
  | .tAddHi _ _ _ _ => true
  | .tCmpHi _ _ _ _ => true
  | .tMovHi _ _ _ _ => true
  | .tBx _ _ _ _ => true
  | .tLdrPc _ _ => true
  | .tStrReg _ _ _ => true
  | .tStrbReg _ _ _ => true
  | .tLdrReg _ _ _ => true
  | .tLdrbReg _ _ _ => true
  | .tStrhReg _ _ _ => true
  | .tLdsbReg _ _ _ => true
  | .tLdrhReg _ _ _ => true
  | .tLdshReg _ _ _ => true
  | .tStrImm _ _ _ => true
  | .tLdrImm _ _ _ => true
  | .tStrbImm _ _ _ => true
  | .tLdrbImm _ _ _ => true
  | .tStrhImm _ _ _ => true
  | .tLdrhImm _ _ _ => true
  | .tStrSp _ _ => true
  | .tLdrSp _ _ => true
  | .tAddPc _ _ => true
  | .tAddSp _ _ => true
  | .tAddSpImm _ => true
  | .tSubSpImm _ => true
  | .tPush _ _ => true
  | .tPop _ _ => true
  | .tUndefU1a _ => true
  | .tUndefU1b _ => true
  | .tUndefU1c _ => true
  | .tUndefU1d _ => true
  | .tUndefU1e _ => true
  | .tStmia _ _ => true
  | .tLdmia _ _ => true
  | .tBEq _ => true
  | .tBNe _ => true
  | .tBCs _ => true
  | .tBCc _ => true
  | .tBMi _ => true
  | .tBPl _ => true
  | .tBVs _ => true
  | .tBVc _ => true
  | .tBHi _ => true
  | .tBLs _ => true
  | .tBGe _ => true
  | .tBLt _ => true
  | .tBGt _ => true
  | .tBLe _ => true
  | .tUndefU2 _ => true
  | .tSwi _ => true
  | .tB _ => true
  | .tUndefU3 _ => true
  | .tBlPrefix _ => true
  | .tBlSuffix _ => true

/-- The instruction set an instruction belongs to. -/
def Instr.isa : Instr → Isa
  | .andImm _ _ _ _ _ _ => .arm
  | .andShiftImm _ _ _ _ _ _ _ => .arm
  | .andShiftReg _ _ _ _ _ _ _ => .arm
  | .eorImm _ _ _ _ _ _ => .arm
  | .eorShiftImm _ _ _ _ _ _ _ => .arm
  | .eorShiftReg _ _ _ _ _ _ _ => .arm
  | .subImm _ _ _ _ _ _ => .arm
  | .subShiftImm _ _ _ _ _ _ _ => .arm
  | .subShiftReg _ _ _ _ _ _ _ => .arm
  | .rsbImm _ _ _ _ _ _ => .arm
  | .rsbShiftImm _ _ _ _ _ _ _ => .arm
  | .rsbShiftReg _ _ _ _ _ _ _ => .arm
  | .addImm _ _ _ _ _ _ => .arm
  | .addShiftImm _ _ _ _ _ _ _ => .arm
  | .addShiftReg _ _ _ _ _ _ _ => .arm
  | .adcImm _ _ _ _ _ _ => .arm
  | .adcShiftImm _ _ _ _ _ _ _ => .arm
  | .adcShiftReg _ _ _ _ _ _ _ => .arm
  | .sbcImm _ _ _ _ _ _ => .arm
  | .sbcShiftImm _ _ _ _ _ _ _ => .arm
  | .sbcShiftReg _ _ _ _ _ _ _ => .arm
  | .rscImm _ _ _ _ _ _ => .arm
  | .rscShiftImm _ _ _ _ _ _ _ => .arm
  | .rscShiftReg _ _ _ _ _ _ _ => .arm
  | .tstImm _ _ _ _ _ => .arm
  | .tstShiftImm _ _ _ _ _ _ => .arm
  | .tstShiftReg _ _ _ _ _ _ => .arm
  | .teqImm _ _ _ _ _ => .arm
  | .teqShiftImm _ _ _ _ _ _ => .arm
  | .teqShiftReg _ _ _ _ _ _ => .arm
  | .cmpImm _ _ _ _ _ => .arm
  | .cmpShiftImm _ _ _ _ _ _ => .arm
  | .cmpShiftReg _ _ _ _ _ _ => .arm
  | .cmnImm _ _ _ _ _ => .arm
  | .cmnShiftImm _ _ _ _ _ _ => .arm
  | .cmnShiftReg _ _ _ _ _ _ => .arm
  | .orrImm _ _ _ _ _ _ => .arm
  | .orrShiftImm _ _ _ _ _ _ _ => .arm
  | .orrShiftReg _ _ _ _ _ _ _ => .arm
  | .movImm _ _ _ _ _ _ => .arm
  | .movShiftImm _ _ _ _ _ _ _ => .arm
  | .movShiftReg _ _ _ _ _ _ _ => .arm
  | .bicImm _ _ _ _ _ _ => .arm
  | .bicShiftImm _ _ _ _ _ _ _ => .arm
  | .bicShiftReg _ _ _ _ _ _ _ => .arm
  | .mvnImm _ _ _ _ _ _ => .arm
  | .mvnShiftImm _ _ _ _ _ _ _ => .arm
  | .mvnShiftReg _ _ _ _ _ _ _ => .arm
  | .mrs _ _ _ _ _ _ => .arm
  | .msrReg _ _ _ _ _ _ => .arm
  | .msrImm _ _ _ _ _ _ => .arm
  | .bx _ _ _ => .arm
  | .mul _ _ _ _ _ _ => .arm
  | .mla _ _ _ _ _ _ => .arm
  | .umull _ _ _ _ _ _ => .arm
  | .umlal _ _ _ _ _ _ => .arm
  | .smull _ _ _ _ _ _ => .arm
  | .smlal _ _ _ _ _ _ => .arm
  | .swp _ _ _ _ _ => .arm
  | .swpb _ _ _ _ _ => .arm
  | .undefU1 _ _ _ _ => .arm
  | .strh _ _ _ _ _ _ _ => .arm
  | .ldrh _ _ _ _ _ _ _ => .arm
  | .ldrsb _ _ _ _ _ _ _ => .arm
  | .ldrsh _ _ _ _ _ _ _ => .arm
  | .undefU2 _ _ _ _ _ => .arm
  | .undefU3 _ _ _ _ _ => .arm
  | .undefU4 _ _ _ => .arm
  | .ldrImmPre _ _ _ _ _ _ => .arm
  | .ldrImmPost _ _ _ _ _ => .arm
  | .ldrRegPre _ _ _ _ _ _ _ _ => .arm
  | .ldrRegPost _ _ _ _ _ _ _ => .arm
  | .strImmPre _ _ _ _ _ _ => .arm
  | .strImmPost _ _ _ _ _ => .arm
  | .strRegPre _ _ _ _ _ _ _ _ => .arm
  | .strRegPost _ _ _ _ _ _ _ => .arm
  | .ldrbImmPre _ _ _ _ _ _ => .arm
  | .ldrbImmPost _ _ _ _ _ => .arm
  | .ldrbRegPre _ _ _ _ _ _ _ _ => .arm
  | .ldrbRegPost _ _ _ _ _ _ _ => .arm
  | .strbImmPre _ _ _ _ _ _ => .arm
  | .strbImmPost _ _ _ _ _ => .arm
  | .strbRegPre _ _ _ _ _ _ _ _ => .arm
  | .strbRegPost _ _ _ _ _ _ _ => .arm
  | .ldrtImm _ _ _ _ _ => .arm
  | .ldrtReg _ _ _ _ _ _ _ => .arm
  | .strtImm _ _ _ _ _ => .arm
  | .strtReg _ _ _ _ _ _ _ => .arm
  | .ldrbtImm _ _ _ _ _ => .arm
  | .ldrbtReg _ _ _ _ _ _ _ => .arm
  | .strbtImm _ _ _ _ _ => .arm
  | .strbtReg _ _ _ _ _ _ _ => .arm
  | .undefU5 _ _ _ => .arm
  | .ldm _ _ _ _ _ _ _ => .arm
  | .stm _ _ _ _ _ _ _ => .arm
  | .b _ _ => .arm
  | .bl _ _ => .arm
  | .ldc _ _ _ _ _ _ _ _ _ => .arm
  | .stc _ _ _ _ _ _ _ _ _ => .arm
  | .cdp _ _ _ _ _ _ _ => .arm
  | .mcr _ _ _ _ _ _ _ => .arm
  | .mrc _ _ _ _ _ _ _ => .arm
  | .swi _ _ => .arm
  | .tLslImm _ _ _ => .thumb
  | .tLsrImm _ _ _ => .thumb
  | .tAsrImm _ _ _ => .thumb
  | .tAddReg _ _ _ => .thumb
  | .tSubReg _ _ _ => .thumb
  | .tAddImm3 _ _ _ => .thumb
  | .tSubImm3 _ _ _ => .thumb
  | .tMovImm8 _ _ => .thumb
  | .tCmpImm8 _ _ => .thumb
  | .tAddImm8 _ _ => .thumb
  | .tSubImm8 _ _ => .thumb
  | .tAnd _ _ => .thumb
  | .tEor _ _ => .thumb
  | .tLsl _ _ => .thumb
  | .tLsr _ _ => .thumb
  | .tAsr _ _ => .thumb
  | .tAdc _ _ => .thumb
  | .tSbc _ _ => .thumb
  | .tRor _ _ => .thumb
  | .tTst _ _ => .thumb
  | .tNeg _ _ => .thumb
  | .tCmp _ _ => .thumb
  | .tCmn _ _ => .thumb
  | .tOrr _ _ => .thumb
  | .tMul _ _ => .thumb
  | .tBic _ _ => .thumb
  | .tMvn _ _ => .thumb
  | .tAddHi _ _ _ _ => .thumb
  | .tCmpHi _ _ _ _ => .thumb
  | .tMovHi _ _ _ _ => .thumb
  | .tBx _ _ _ _ => .thumb
  | .tLdrPc _ _ => .thumb
  | .tStrReg _ _ _ => .thumb
  | .tStrbReg _ _ _ => .thumb
  | .tLdrReg _ _ _ => .thumb
  | .tLdrbReg _ _ _ => .thumb
  | .tStrhReg _ _ _ => .thumb
  | .tLdsbReg _ _ _ => .thumb
  | .tLdrhReg _ _ _ => .thumb
  | .tLdshReg _ _ _ => .thumb
  | .tStrImm _ _ _ => .thumb
  | .tLdrImm _ _ _ => .thumb
  | .tStrbImm _ _ _ => .thumb
  | .tLdrbImm _ _ _ => .thumb
  | .tStrhImm _ _ _ => .thumb
  | .tLdrhImm _ _ _ => .thumb
  | .tStrSp _ _ => .thumb
  | .tLdrSp _ _ => .thumb
  | .tAddPc _ _ => .thumb
  | .tAddSp _ _ => .thumb
  | .tAddSpImm _ => .thumb
  | .tSubSpImm _ => .thumb
  | .tPush _ _ => .thumb
  | .tPop _ _ => .thumb
  | .tUndefU1a _ => .thumb
  | .tUndefU1b _ => .thumb
  | .tUndefU1c _ => .thumb
  | .tUndefU1d _ => .thumb
  | .tUndefU1e _ => .thumb
  | .tStmia _ _ => .thumb
  | .tLdmia _ _ => .thumb
  | .tBEq _ => .thumb
  | .tBNe _ => .thumb
  | .tBCs _ => .thumb
  | .tBCc _ => .thumb
  | .tBMi _ => .thumb
  | .tBPl _ => .thumb
  | .tBVs _ => .thumb
  | .tBVc _ => .thumb
  | .tBHi _ => .thumb
  | .tBLs _ => .thumb
  | .tBGe _ => .thumb
  | .tBLt _ => .thumb
  | .tBGt _ => .thumb
  | .tBLe _ => .thumb
  | .tUndefU2 _ => .thumb
  | .tSwi _ => .thumb
  | .tB _ => .thumb
  | .tUndefU3 _ => .thumb
  | .tBlPrefix _ => .thumb
  | .tBlSuffix _ => .thumb

end Sys2Proof
end

