-- ==== Sys2Proof/Decode.lean ====
section
/-! DEFINITION. The decoder (R146, R167), total on any bytes, and the encoder written from the same formats
(R147..R155, R166). Every bit pattern here is the spec's general-knowledge encoding (93_implementation_defined.md
G-ENC, G-THUMB). -/

namespace Sys2Proof

/-- The value of a condition code (R141, R142). -/
def Cond.code : Cond → BitVec 4
  | .eq => 0b0000#4
  | .ne => 0b0001#4
  | .cs => 0b0010#4
  | .cc => 0b0011#4
  | .mi => 0b0100#4
  | .pl => 0b0101#4
  | .vs => 0b0110#4
  | .vc => 0b0111#4
  | .hi => 0b1000#4
  | .ls => 0b1001#4
  | .ge => 0b1010#4
  | .lt => 0b1011#4
  | .gt => 0b1100#4
  | .le => 0b1101#4
  | .al => 0b1110#4
  | .nv => 0b1111#4

/-- The condition code of a value (R142). -/
def Cond.ofCode (b : BitVec 4) : Cond :=
  match b.toNat with
  | 0 => .eq
  | 1 => .ne
  | 2 => .cs
  | 3 => .cc
  | 4 => .mi
  | 5 => .pl
  | 6 => .vs
  | 7 => .vc
  | 8 => .hi
  | 9 => .ls
  | 10 => .ge
  | 11 => .lt
  | 12 => .gt
  | 13 => .le
  | 14 => .al
  | _ => .nv

/-- The two bits of a shift type (R147). -/
def Shift.code : Shift → BitVec 2
  | .lsl => 0b00#2
  | .lsr => 0b01#2
  | .asr => 0b10#2
  | .ror => 0b11#2

/-- The shift type of two bits (R147). -/
def Shift.ofCode (b : BitVec 2) : Shift :=
  match b.toNat with
  | 0 => .lsl
  | 1 => .lsr
  | 2 => .asr
  | _ => .ror

/-! ## ARM -/

/-- The offset of a halfword or signed transfer: bit 22 selects the form (R151). -/
def halfOff (w : Word) : HalfOff :=
  if w.getLsbD 22 then .imm (w.extractLsb' 8 4) (w.extractLsb' 0 4) else .reg (w.extractLsb' 8 4) (w.extractLsb' 0 4)

/-- Data processing with an immediate (F-A3), by the opcode in bits 24:21. -/
def decodeDpImm (c : Cond) (w : Word) : Instr :=
  match (w.extractLsb' 21 4).toNat with
  | 0 => .andImm c (w.getLsbD 20) (w.extractLsb' 16 4) (w.extractLsb' 12 4) (w.extractLsb' 8 4) (w.extractLsb' 0 8)
  | 1 => .eorImm c (w.getLsbD 20) (w.extractLsb' 16 4) (w.extractLsb' 12 4) (w.extractLsb' 8 4) (w.extractLsb' 0 8)
  | 2 => .subImm c (w.getLsbD 20) (w.extractLsb' 16 4) (w.extractLsb' 12 4) (w.extractLsb' 8 4) (w.extractLsb' 0 8)
  | 3 => .rsbImm c (w.getLsbD 20) (w.extractLsb' 16 4) (w.extractLsb' 12 4) (w.extractLsb' 8 4) (w.extractLsb' 0 8)
  | 4 => .addImm c (w.getLsbD 20) (w.extractLsb' 16 4) (w.extractLsb' 12 4) (w.extractLsb' 8 4) (w.extractLsb' 0 8)
  | 5 => .adcImm c (w.getLsbD 20) (w.extractLsb' 16 4) (w.extractLsb' 12 4) (w.extractLsb' 8 4) (w.extractLsb' 0 8)
  | 6 => .sbcImm c (w.getLsbD 20) (w.extractLsb' 16 4) (w.extractLsb' 12 4) (w.extractLsb' 8 4) (w.extractLsb' 0 8)
  | 7 => .rscImm c (w.getLsbD 20) (w.extractLsb' 16 4) (w.extractLsb' 12 4) (w.extractLsb' 8 4) (w.extractLsb' 0 8)
  | 8 => .tstImm c (w.extractLsb' 16 4) (w.extractLsb' 12 4) (w.extractLsb' 8 4) (w.extractLsb' 0 8)
  | 9 => .teqImm c (w.extractLsb' 16 4) (w.extractLsb' 12 4) (w.extractLsb' 8 4) (w.extractLsb' 0 8)
  | 10 => .cmpImm c (w.extractLsb' 16 4) (w.extractLsb' 12 4) (w.extractLsb' 8 4) (w.extractLsb' 0 8)
  | 11 => .cmnImm c (w.extractLsb' 16 4) (w.extractLsb' 12 4) (w.extractLsb' 8 4) (w.extractLsb' 0 8)
  | 12 => .orrImm c (w.getLsbD 20) (w.extractLsb' 16 4) (w.extractLsb' 12 4) (w.extractLsb' 8 4) (w.extractLsb' 0 8)
  | 13 => .movImm c (w.getLsbD 20) (w.extractLsb' 16 4) (w.extractLsb' 12 4) (w.extractLsb' 8 4) (w.extractLsb' 0 8)
  | 14 => .bicImm c (w.getLsbD 20) (w.extractLsb' 16 4) (w.extractLsb' 12 4) (w.extractLsb' 8 4) (w.extractLsb' 0 8)
  | _ => .mvnImm c (w.getLsbD 20) (w.extractLsb' 16 4) (w.extractLsb' 12 4) (w.extractLsb' 8 4) (w.extractLsb' 0 8)

/-- Data processing, register shifted by an immediate (F-A1). -/
def decodeDpShiftImm (c : Cond) (w : Word) : Instr :=
  match (w.extractLsb' 21 4).toNat with
  | 0 => .andShiftImm c (w.getLsbD 20) (w.extractLsb' 16 4) (w.extractLsb' 12 4) (w.extractLsb' 7 5) (Shift.ofCode (w.extractLsb' 5 2)) (w.extractLsb' 0 4)
  | 1 => .eorShiftImm c (w.getLsbD 20) (w.extractLsb' 16 4) (w.extractLsb' 12 4) (w.extractLsb' 7 5) (Shift.ofCode (w.extractLsb' 5 2)) (w.extractLsb' 0 4)
  | 2 => .subShiftImm c (w.getLsbD 20) (w.extractLsb' 16 4) (w.extractLsb' 12 4) (w.extractLsb' 7 5) (Shift.ofCode (w.extractLsb' 5 2)) (w.extractLsb' 0 4)
  | 3 => .rsbShiftImm c (w.getLsbD 20) (w.extractLsb' 16 4) (w.extractLsb' 12 4) (w.extractLsb' 7 5) (Shift.ofCode (w.extractLsb' 5 2)) (w.extractLsb' 0 4)
  | 4 => .addShiftImm c (w.getLsbD 20) (w.extractLsb' 16 4) (w.extractLsb' 12 4) (w.extractLsb' 7 5) (Shift.ofCode (w.extractLsb' 5 2)) (w.extractLsb' 0 4)
  | 5 => .adcShiftImm c (w.getLsbD 20) (w.extractLsb' 16 4) (w.extractLsb' 12 4) (w.extractLsb' 7 5) (Shift.ofCode (w.extractLsb' 5 2)) (w.extractLsb' 0 4)
  | 6 => .sbcShiftImm c (w.getLsbD 20) (w.extractLsb' 16 4) (w.extractLsb' 12 4) (w.extractLsb' 7 5) (Shift.ofCode (w.extractLsb' 5 2)) (w.extractLsb' 0 4)
  | 7 => .rscShiftImm c (w.getLsbD 20) (w.extractLsb' 16 4) (w.extractLsb' 12 4) (w.extractLsb' 7 5) (Shift.ofCode (w.extractLsb' 5 2)) (w.extractLsb' 0 4)
  | 8 => .tstShiftImm c (w.extractLsb' 16 4) (w.extractLsb' 12 4) (w.extractLsb' 7 5) (Shift.ofCode (w.extractLsb' 5 2)) (w.extractLsb' 0 4)
  | 9 => .teqShiftImm c (w.extractLsb' 16 4) (w.extractLsb' 12 4) (w.extractLsb' 7 5) (Shift.ofCode (w.extractLsb' 5 2)) (w.extractLsb' 0 4)
  | 10 => .cmpShiftImm c (w.extractLsb' 16 4) (w.extractLsb' 12 4) (w.extractLsb' 7 5) (Shift.ofCode (w.extractLsb' 5 2)) (w.extractLsb' 0 4)
  | 11 => .cmnShiftImm c (w.extractLsb' 16 4) (w.extractLsb' 12 4) (w.extractLsb' 7 5) (Shift.ofCode (w.extractLsb' 5 2)) (w.extractLsb' 0 4)
  | 12 => .orrShiftImm c (w.getLsbD 20) (w.extractLsb' 16 4) (w.extractLsb' 12 4) (w.extractLsb' 7 5) (Shift.ofCode (w.extractLsb' 5 2)) (w.extractLsb' 0 4)
  | 13 => .movShiftImm c (w.getLsbD 20) (w.extractLsb' 16 4) (w.extractLsb' 12 4) (w.extractLsb' 7 5) (Shift.ofCode (w.extractLsb' 5 2)) (w.extractLsb' 0 4)
  | 14 => .bicShiftImm c (w.getLsbD 20) (w.extractLsb' 16 4) (w.extractLsb' 12 4) (w.extractLsb' 7 5) (Shift.ofCode (w.extractLsb' 5 2)) (w.extractLsb' 0 4)
  | _ => .mvnShiftImm c (w.getLsbD 20) (w.extractLsb' 16 4) (w.extractLsb' 12 4) (w.extractLsb' 7 5) (Shift.ofCode (w.extractLsb' 5 2)) (w.extractLsb' 0 4)

/-- Data processing, register shifted by a register (F-A2). -/
def decodeDpShiftReg (c : Cond) (w : Word) : Instr :=
  match (w.extractLsb' 21 4).toNat with
  | 0 => .andShiftReg c (w.getLsbD 20) (w.extractLsb' 16 4) (w.extractLsb' 12 4) (w.extractLsb' 8 4) (Shift.ofCode (w.extractLsb' 5 2)) (w.extractLsb' 0 4)
  | 1 => .eorShiftReg c (w.getLsbD 20) (w.extractLsb' 16 4) (w.extractLsb' 12 4) (w.extractLsb' 8 4) (Shift.ofCode (w.extractLsb' 5 2)) (w.extractLsb' 0 4)
  | 2 => .subShiftReg c (w.getLsbD 20) (w.extractLsb' 16 4) (w.extractLsb' 12 4) (w.extractLsb' 8 4) (Shift.ofCode (w.extractLsb' 5 2)) (w.extractLsb' 0 4)
  | 3 => .rsbShiftReg c (w.getLsbD 20) (w.extractLsb' 16 4) (w.extractLsb' 12 4) (w.extractLsb' 8 4) (Shift.ofCode (w.extractLsb' 5 2)) (w.extractLsb' 0 4)
  | 4 => .addShiftReg c (w.getLsbD 20) (w.extractLsb' 16 4) (w.extractLsb' 12 4) (w.extractLsb' 8 4) (Shift.ofCode (w.extractLsb' 5 2)) (w.extractLsb' 0 4)
  | 5 => .adcShiftReg c (w.getLsbD 20) (w.extractLsb' 16 4) (w.extractLsb' 12 4) (w.extractLsb' 8 4) (Shift.ofCode (w.extractLsb' 5 2)) (w.extractLsb' 0 4)
  | 6 => .sbcShiftReg c (w.getLsbD 20) (w.extractLsb' 16 4) (w.extractLsb' 12 4) (w.extractLsb' 8 4) (Shift.ofCode (w.extractLsb' 5 2)) (w.extractLsb' 0 4)
  | 7 => .rscShiftReg c (w.getLsbD 20) (w.extractLsb' 16 4) (w.extractLsb' 12 4) (w.extractLsb' 8 4) (Shift.ofCode (w.extractLsb' 5 2)) (w.extractLsb' 0 4)
  | 8 => .tstShiftReg c (w.extractLsb' 16 4) (w.extractLsb' 12 4) (w.extractLsb' 8 4) (Shift.ofCode (w.extractLsb' 5 2)) (w.extractLsb' 0 4)
  | 9 => .teqShiftReg c (w.extractLsb' 16 4) (w.extractLsb' 12 4) (w.extractLsb' 8 4) (Shift.ofCode (w.extractLsb' 5 2)) (w.extractLsb' 0 4)
  | 10 => .cmpShiftReg c (w.extractLsb' 16 4) (w.extractLsb' 12 4) (w.extractLsb' 8 4) (Shift.ofCode (w.extractLsb' 5 2)) (w.extractLsb' 0 4)
  | 11 => .cmnShiftReg c (w.extractLsb' 16 4) (w.extractLsb' 12 4) (w.extractLsb' 8 4) (Shift.ofCode (w.extractLsb' 5 2)) (w.extractLsb' 0 4)
  | 12 => .orrShiftReg c (w.getLsbD 20) (w.extractLsb' 16 4) (w.extractLsb' 12 4) (w.extractLsb' 8 4) (Shift.ofCode (w.extractLsb' 5 2)) (w.extractLsb' 0 4)
  | 13 => .movShiftReg c (w.getLsbD 20) (w.extractLsb' 16 4) (w.extractLsb' 12 4) (w.extractLsb' 8 4) (Shift.ofCode (w.extractLsb' 5 2)) (w.extractLsb' 0 4)
  | 14 => .bicShiftReg c (w.getLsbD 20) (w.extractLsb' 16 4) (w.extractLsb' 12 4) (w.extractLsb' 8 4) (Shift.ofCode (w.extractLsb' 5 2)) (w.extractLsb' 0 4)
  | _ => .mvnShiftReg c (w.getLsbD 20) (w.extractLsb' 16 4) (w.extractLsb' 12 4) (w.extractLsb' 8 4) (Shift.ofCode (w.extractLsb' 5 2)) (w.extractLsb' 0 4)

/-- Bits 27:25 = 000 and 7:4 = 1001: multiply, long multiply, swap or U1 (R146). -/
def decodeMulSwap (c : Cond) (w : Word) : Instr :=
  if w.extractLsb' 22 3 == 0b000#3 then
    (if w.getLsbD 21 then .mla c (w.getLsbD 20) (w.extractLsb' 16 4) (w.extractLsb' 12 4) (w.extractLsb' 8 4) (w.extractLsb' 0 4)
     else .mul c (w.getLsbD 20) (w.extractLsb' 16 4) (w.extractLsb' 12 4) (w.extractLsb' 8 4) (w.extractLsb' 0 4))
  else if w.extractLsb' 23 2 == 0b01#2 then
    match (w.extractLsb' 21 2).toNat with
    | 0 => .umull c (w.getLsbD 20) (w.extractLsb' 16 4) (w.extractLsb' 12 4) (w.extractLsb' 8 4) (w.extractLsb' 0 4)
    | 1 => .umlal c (w.getLsbD 20) (w.extractLsb' 16 4) (w.extractLsb' 12 4) (w.extractLsb' 8 4) (w.extractLsb' 0 4)
    | 2 => .smull c (w.getLsbD 20) (w.extractLsb' 16 4) (w.extractLsb' 12 4) (w.extractLsb' 8 4) (w.extractLsb' 0 4)
    | _ => .smlal c (w.getLsbD 20) (w.extractLsb' 16 4) (w.extractLsb' 12 4) (w.extractLsb' 8 4) (w.extractLsb' 0 4)
  else if w.extractLsb' 20 5 == 0b10000#5 then .swp c (w.extractLsb' 16 4) (w.extractLsb' 12 4) (w.extractLsb' 8 4) (w.extractLsb' 0 4)
  else if w.extractLsb' 20 5 == 0b10100#5 then .swpb c (w.extractLsb' 16 4) (w.extractLsb' 12 4) (w.extractLsb' 8 4) (w.extractLsb' 0 4)
  else .undefU1 c (w.extractLsb' 20 5) (w.extractLsb' 8 12) (w.extractLsb' 0 4)

/-- Bits 27:25 = 000, bit 7 = bit 4 = 1 and bits 6:5 not 00: the halfword and signed transfers and U2 (R146). -/
def decodeHalf (c : Cond) (w : Word) : Instr :=
  if w.getLsbD 20 then
    match (w.extractLsb' 5 2).toNat with
    | 1 => .ldrh c (w.getLsbD 24) (w.getLsbD 23) (w.getLsbD 21) (w.extractLsb' 16 4) (w.extractLsb' 12 4) (halfOff w)
    | 2 => .ldrsb c (w.getLsbD 24) (w.getLsbD 23) (w.getLsbD 21) (w.extractLsb' 16 4) (w.extractLsb' 12 4) (halfOff w)
    | _ => .ldrsh c (w.getLsbD 24) (w.getLsbD 23) (w.getLsbD 21) (w.extractLsb' 16 4) (w.extractLsb' 12 4) (halfOff w)
  else if w.getLsbD 6 then .undefU2 c (w.extractLsb' 21 4) (w.extractLsb' 8 12) (w.getLsbD 5) (w.extractLsb' 0 4)
  else .strh c (w.getLsbD 24) (w.getLsbD 23) (w.getLsbD 21) (w.extractLsb' 16 4) (w.extractLsb' 12 4) (halfOff w)

/-- Bits 27:20 in 0x10, 0x12, 0x14, 0x16 outside the spaces above: MRS, MSR, BX or U3 (R146). -/
def decodeMisc (c : Cond) (w : Word) : Instr :=
  if w.extractLsb' 4 4 == 0b0000#4 then
    (if w.getLsbD 21 then .msrReg c (w.getLsbD 22) (w.extractLsb' 16 4) (w.extractLsb' 12 4) (w.extractLsb' 8 4) (w.extractLsb' 0 4)
     else .mrs c (w.getLsbD 22) (w.extractLsb' 16 4) (w.extractLsb' 12 4) (w.extractLsb' 8 4) (w.extractLsb' 0 4))
  else if w.extractLsb' 21 2 == 0b01#2 && w.extractLsb' 4 4 == 0b0001#4 then .bx c (w.extractLsb' 8 12) (w.extractLsb' 0 4)
  else .undefU3 c (w.extractLsb' 21 2) (w.extractLsb' 8 12) (w.extractLsb' 4 4) (w.extractLsb' 0 4)

/-- Single transfer with an immediate offset (F-A13): P in bit 24, B 22, W 21, L 20 (R152). -/
def decodeLsImm (c : Cond) (w : Word) : Instr :=
  if w.getLsbD 24 then
    match w.getLsbD 22, w.getLsbD 20 with
    | false, false => .strImmPre c (w.getLsbD 23) (w.getLsbD 21) (w.extractLsb' 16 4) (w.extractLsb' 12 4) (w.extractLsb' 0 12)
    | false, true => .ldrImmPre c (w.getLsbD 23) (w.getLsbD 21) (w.extractLsb' 16 4) (w.extractLsb' 12 4) (w.extractLsb' 0 12)
    | true, false => .strbImmPre c (w.getLsbD 23) (w.getLsbD 21) (w.extractLsb' 16 4) (w.extractLsb' 12 4) (w.extractLsb' 0 12)
    | true, true => .ldrbImmPre c (w.getLsbD 23) (w.getLsbD 21) (w.extractLsb' 16 4) (w.extractLsb' 12 4) (w.extractLsb' 0 12)
  else if w.getLsbD 21 then
    match w.getLsbD 22, w.getLsbD 20 with
    | false, false => .strtImm c (w.getLsbD 23) (w.extractLsb' 16 4) (w.extractLsb' 12 4) (w.extractLsb' 0 12)
    | false, true => .ldrtImm c (w.getLsbD 23) (w.extractLsb' 16 4) (w.extractLsb' 12 4) (w.extractLsb' 0 12)
    | true, false => .strbtImm c (w.getLsbD 23) (w.extractLsb' 16 4) (w.extractLsb' 12 4) (w.extractLsb' 0 12)
    | true, true => .ldrbtImm c (w.getLsbD 23) (w.extractLsb' 16 4) (w.extractLsb' 12 4) (w.extractLsb' 0 12)
  else
    match w.getLsbD 22, w.getLsbD 20 with
    | false, false => .strImmPost c (w.getLsbD 23) (w.extractLsb' 16 4) (w.extractLsb' 12 4) (w.extractLsb' 0 12)
    | false, true => .ldrImmPost c (w.getLsbD 23) (w.extractLsb' 16 4) (w.extractLsb' 12 4) (w.extractLsb' 0 12)
    | true, false => .strbImmPost c (w.getLsbD 23) (w.extractLsb' 16 4) (w.extractLsb' 12 4) (w.extractLsb' 0 12)
    | true, true => .ldrbImmPost c (w.getLsbD 23) (w.extractLsb' 16 4) (w.extractLsb' 12 4) (w.extractLsb' 0 12)

/-- Single transfer with a register offset (F-A14). -/
def decodeLsReg (c : Cond) (w : Word) : Instr :=
  if w.getLsbD 24 then
    match w.getLsbD 22, w.getLsbD 20 with
    | false, false => .strRegPre c (w.getLsbD 23) (w.getLsbD 21) (w.extractLsb' 16 4) (w.extractLsb' 12 4) (w.extractLsb' 7 5) (Shift.ofCode (w.extractLsb' 5 2)) (w.extractLsb' 0 4)
    | false, true => .ldrRegPre c (w.getLsbD 23) (w.getLsbD 21) (w.extractLsb' 16 4) (w.extractLsb' 12 4) (w.extractLsb' 7 5) (Shift.ofCode (w.extractLsb' 5 2)) (w.extractLsb' 0 4)
    | true, false => .strbRegPre c (w.getLsbD 23) (w.getLsbD 21) (w.extractLsb' 16 4) (w.extractLsb' 12 4) (w.extractLsb' 7 5) (Shift.ofCode (w.extractLsb' 5 2)) (w.extractLsb' 0 4)
    | true, true => .ldrbRegPre c (w.getLsbD 23) (w.getLsbD 21) (w.extractLsb' 16 4) (w.extractLsb' 12 4) (w.extractLsb' 7 5) (Shift.ofCode (w.extractLsb' 5 2)) (w.extractLsb' 0 4)
  else if w.getLsbD 21 then
    match w.getLsbD 22, w.getLsbD 20 with
    | false, false => .strtReg c (w.getLsbD 23) (w.extractLsb' 16 4) (w.extractLsb' 12 4) (w.extractLsb' 7 5) (Shift.ofCode (w.extractLsb' 5 2)) (w.extractLsb' 0 4)
    | false, true => .ldrtReg c (w.getLsbD 23) (w.extractLsb' 16 4) (w.extractLsb' 12 4) (w.extractLsb' 7 5) (Shift.ofCode (w.extractLsb' 5 2)) (w.extractLsb' 0 4)
    | true, false => .strbtReg c (w.getLsbD 23) (w.extractLsb' 16 4) (w.extractLsb' 12 4) (w.extractLsb' 7 5) (Shift.ofCode (w.extractLsb' 5 2)) (w.extractLsb' 0 4)
    | true, true => .ldrbtReg c (w.getLsbD 23) (w.extractLsb' 16 4) (w.extractLsb' 12 4) (w.extractLsb' 7 5) (Shift.ofCode (w.extractLsb' 5 2)) (w.extractLsb' 0 4)
  else
    match w.getLsbD 22, w.getLsbD 20 with
    | false, false => .strRegPost c (w.getLsbD 23) (w.extractLsb' 16 4) (w.extractLsb' 12 4) (w.extractLsb' 7 5) (Shift.ofCode (w.extractLsb' 5 2)) (w.extractLsb' 0 4)
    | false, true => .ldrRegPost c (w.getLsbD 23) (w.extractLsb' 16 4) (w.extractLsb' 12 4) (w.extractLsb' 7 5) (Shift.ofCode (w.extractLsb' 5 2)) (w.extractLsb' 0 4)
    | true, false => .strbRegPost c (w.getLsbD 23) (w.extractLsb' 16 4) (w.extractLsb' 12 4) (w.extractLsb' 7 5) (Shift.ofCode (w.extractLsb' 5 2)) (w.extractLsb' 0 4)
    | true, true => .ldrbRegPost c (w.getLsbD 23) (w.extractLsb' 16 4) (w.extractLsb' 12 4) (w.extractLsb' 7 5) (Shift.ofCode (w.extractLsb' 5 2)) (w.extractLsb' 0 4)

/-- Bits 27:25 = 111: SWI, CDP, MCR or MRC (R146). -/
def decodeCoproc (c : Cond) (w : Word) : Instr :=
  if w.getLsbD 24 then .swi c (w.extractLsb' 0 24)
  else if w.getLsbD 4 then
    (if w.getLsbD 20 then .mrc c (w.extractLsb' 21 3) (w.extractLsb' 16 4) (w.extractLsb' 12 4) (w.extractLsb' 8 4) (w.extractLsb' 5 3) (w.extractLsb' 0 4)
     else .mcr c (w.extractLsb' 21 3) (w.extractLsb' 16 4) (w.extractLsb' 12 4) (w.extractLsb' 8 4) (w.extractLsb' 5 3) (w.extractLsb' 0 4))
  else .cdp c (w.extractLsb' 20 4) (w.extractLsb' 16 4) (w.extractLsb' 12 4) (w.extractLsb' 8 4) (w.extractLsb' 5 3) (w.extractLsb' 0 4)

/-- Bits 27:25 = 000 (R146): `w[7:4] == 1001` and `w[7] == w[4] == 1` are tested before the miscellaneous space. -/
def decodeArm0 (c : Cond) (w : Word) : Instr :=
  if w.getLsbD 7 && w.getLsbD 4 then
    (if w.extractLsb' 5 2 == 0b00#2 then decodeMulSwap c w else decodeHalf c w)
  else if w.extractLsb' 23 2 == 0b10#2 && !w.getLsbD 20 then decodeMisc c w
  else if w.getLsbD 4 then decodeDpShiftReg c w
  else decodeDpShiftImm c w

/-- Bits 27:25 = 001 (R146): U4 and MSR immediate are the opcodes 10xx with S = 0. -/
def decodeArm1 (c : Cond) (w : Word) : Instr :=
  if w.extractLsb' 23 2 == 0b10#2 && !w.getLsbD 20 then
    (if w.getLsbD 21 then .msrImm c (w.getLsbD 22) (w.extractLsb' 16 4) (w.extractLsb' 12 4) (w.extractLsb' 8 4) (w.extractLsb' 0 8)
     else .undefU4 c (w.getLsbD 22) (w.extractLsb' 0 20))
  else decodeDpImm c w

/-- DecodeARM (R146). Total: every word is some instruction, the undefined ones included (R175). -/
def decodeArm (w : Word) : Instr :=
  let c := Cond.ofCode (w.extractLsb' 28 4)
  match (w.extractLsb' 25 3).toNat with
  | 0 => decodeArm0 c w
  | 1 => decodeArm1 c w
  | 2 => decodeLsImm c w
  | 3 => if w.getLsbD 4 then .undefU5 c (w.extractLsb' 5 20) (w.extractLsb' 0 4) else decodeLsReg c w
  | 4 =>
    if w.getLsbD 20 then .ldm c (w.getLsbD 24) (w.getLsbD 23) (w.getLsbD 22) (w.getLsbD 21) (w.extractLsb' 16 4) (w.extractLsb' 0 16)
    else .stm c (w.getLsbD 24) (w.getLsbD 23) (w.getLsbD 22) (w.getLsbD 21) (w.extractLsb' 16 4) (w.extractLsb' 0 16)
  | 5 =>
    if w.getLsbD 24 then .bl c (w.extractLsb' 0 24) else .b c (w.extractLsb' 0 24)
  | 6 =>
    if w.getLsbD 20 then .ldc c (w.getLsbD 24) (w.getLsbD 23) (w.getLsbD 22) (w.getLsbD 21) (w.extractLsb' 16 4) (w.extractLsb' 12 4) (w.extractLsb' 8 4) (w.extractLsb' 0 8)
    else .stc c (w.getLsbD 24) (w.getLsbD 23) (w.getLsbD 22) (w.getLsbD 21) (w.extractLsb' 16 4) (w.extractLsb' 12 4) (w.extractLsb' 8 4) (w.extractLsb' 0 8)
  | _ => decodeCoproc c w

/-! ## THUMB -/

/-- Formats 1 and 2 (R167): bits 15:13 = 000. -/
def decodeThumb12 (w : Half) : Instr :=
  match (w.extractLsb' 11 2).toNat with
  | 0 => .tLslImm (w.extractLsb' 6 5) (w.extractLsb' 3 3) (w.extractLsb' 0 3)
  | 1 => .tLsrImm (w.extractLsb' 6 5) (w.extractLsb' 3 3) (w.extractLsb' 0 3)
  | 2 => .tAsrImm (w.extractLsb' 6 5) (w.extractLsb' 3 3) (w.extractLsb' 0 3)
  | _ => (match (w.extractLsb' 9 2).toNat with
    | 0 => .tAddReg (w.extractLsb' 6 3) (w.extractLsb' 3 3) (w.extractLsb' 0 3)
    | 1 => .tSubReg (w.extractLsb' 6 3) (w.extractLsb' 3 3) (w.extractLsb' 0 3)
    | 2 => .tAddImm3 (w.extractLsb' 6 3) (w.extractLsb' 3 3) (w.extractLsb' 0 3)
    | _ => .tSubImm3 (w.extractLsb' 6 3) (w.extractLsb' 3 3) (w.extractLsb' 0 3))

/-- Format 4 (R166): the opcode is bits 9:6. -/
def decodeThumb4 (w : Half) : Instr :=
  match (w.extractLsb' 6 4).toNat with
  | 0 => .tAnd (w.extractLsb' 3 3) (w.extractLsb' 0 3)
  | 1 => .tEor (w.extractLsb' 3 3) (w.extractLsb' 0 3)
  | 2 => .tLsl (w.extractLsb' 3 3) (w.extractLsb' 0 3)
  | 3 => .tLsr (w.extractLsb' 3 3) (w.extractLsb' 0 3)
  | 4 => .tAsr (w.extractLsb' 3 3) (w.extractLsb' 0 3)
  | 5 => .tAdc (w.extractLsb' 3 3) (w.extractLsb' 0 3)
  | 6 => .tSbc (w.extractLsb' 3 3) (w.extractLsb' 0 3)
  | 7 => .tRor (w.extractLsb' 3 3) (w.extractLsb' 0 3)
  | 8 => .tTst (w.extractLsb' 3 3) (w.extractLsb' 0 3)
  | 9 => .tNeg (w.extractLsb' 3 3) (w.extractLsb' 0 3)
  | 10 => .tCmp (w.extractLsb' 3 3) (w.extractLsb' 0 3)
  | 11 => .tCmn (w.extractLsb' 3 3) (w.extractLsb' 0 3)
  | 12 => .tOrr (w.extractLsb' 3 3) (w.extractLsb' 0 3)
  | 13 => .tMul (w.extractLsb' 3 3) (w.extractLsb' 0 3)
  | 14 => .tBic (w.extractLsb' 3 3) (w.extractLsb' 0 3)
  | _ => .tMvn (w.extractLsb' 3 3) (w.extractLsb' 0 3)

/-- Format 5 (R166): the opcode is bits 9:8. -/
def decodeThumb5 (w : Half) : Instr :=
  match (w.extractLsb' 8 2).toNat with
  | 0 => .tAddHi (w.getLsbD 7) (w.getLsbD 6) (w.extractLsb' 3 3) (w.extractLsb' 0 3)
  | 1 => .tCmpHi (w.getLsbD 7) (w.getLsbD 6) (w.extractLsb' 3 3) (w.extractLsb' 0 3)
  | 2 => .tMovHi (w.getLsbD 7) (w.getLsbD 6) (w.extractLsb' 3 3) (w.extractLsb' 0 3)
  | _ => .tBx (w.getLsbD 7) (w.getLsbD 6) (w.extractLsb' 3 3) (w.extractLsb' 0 3)

/-- Formats 7 and 8 (R166): bit 9 selects the format. -/
def decodeThumb78 (w : Half) : Instr :=
  match (w.extractLsb' 9 3).toNat with
  | 0 => .tStrReg (w.extractLsb' 6 3) (w.extractLsb' 3 3) (w.extractLsb' 0 3)
  | 1 => .tStrhReg (w.extractLsb' 6 3) (w.extractLsb' 3 3) (w.extractLsb' 0 3)
  | 2 => .tStrbReg (w.extractLsb' 6 3) (w.extractLsb' 3 3) (w.extractLsb' 0 3)
  | 3 => .tLdsbReg (w.extractLsb' 6 3) (w.extractLsb' 3 3) (w.extractLsb' 0 3)
  | 4 => .tLdrReg (w.extractLsb' 6 3) (w.extractLsb' 3 3) (w.extractLsb' 0 3)
  | 5 => .tLdrhReg (w.extractLsb' 6 3) (w.extractLsb' 3 3) (w.extractLsb' 0 3)
  | 6 => .tLdrbReg (w.extractLsb' 6 3) (w.extractLsb' 3 3) (w.extractLsb' 0 3)
  | _ => .tLdshReg (w.extractLsb' 6 3) (w.extractLsb' 3 3) (w.extractLsb' 0 3)

/-- Bits 15:12 = 1011 (R167): formats 13 and 14 and the five ranges of T-U1 (R176, R178). -/
def decodeThumbMisc (w : Half) : Instr :=
  if w.extractLsb' 9 2 == 0b10#2 then
    (if w.getLsbD 11 then .tPop (w.getLsbD 8) (w.extractLsb' 0 8) else .tPush (w.getLsbD 8) (w.extractLsb' 0 8))
  else
    match (w.extractLsb' 8 4).toNat with
    | 0 => if w.getLsbD 7 then .tSubSpImm (w.extractLsb' 0 7) else .tAddSpImm (w.extractLsb' 0 7)
    | 1 => .tUndefU1a (w.extractLsb' 0 8)
    | 2 => .tUndefU1b (w.extractLsb' 0 9)
    | 3 => .tUndefU1b (w.extractLsb' 0 9)
    | 6 => .tUndefU1c (w.extractLsb' 0 9)
    | 7 => .tUndefU1c (w.extractLsb' 0 9)
    | 14 => .tUndefU1e (w.extractLsb' 0 9)
    | 15 => .tUndefU1e (w.extractLsb' 0 9)
    | _ => .tUndefU1d (w.extractLsb' 0 10)

/-- Bits 15:12 = 1101 (R167): format 16, T-U2 (condition 1110) and format 17 (1111). -/
def decodeThumbCond (w : Half) : Instr :=
  match (w.extractLsb' 8 4).toNat with
  | 0 => .tBEq (w.extractLsb' 0 8)
  | 1 => .tBNe (w.extractLsb' 0 8)
  | 2 => .tBCs (w.extractLsb' 0 8)
  | 3 => .tBCc (w.extractLsb' 0 8)
  | 4 => .tBMi (w.extractLsb' 0 8)
  | 5 => .tBPl (w.extractLsb' 0 8)
  | 6 => .tBVs (w.extractLsb' 0 8)
  | 7 => .tBVc (w.extractLsb' 0 8)
  | 8 => .tBHi (w.extractLsb' 0 8)
  | 9 => .tBLs (w.extractLsb' 0 8)
  | 10 => .tBGe (w.extractLsb' 0 8)
  | 11 => .tBLt (w.extractLsb' 0 8)
  | 12 => .tBGt (w.extractLsb' 0 8)
  | 13 => .tBLe (w.extractLsb' 0 8)
  | 14 => .tUndefU2 (w.extractLsb' 0 8)
  | _ => .tSwi (w.extractLsb' 0 8)

/-- DecodeTHUMB (R167). Total: every halfword is some instruction. -/
def decodeThumb (w : Half) : Instr :=
  match (w.extractLsb' 12 4).toNat with
  | 0 => decodeThumb12 w
  | 1 => decodeThumb12 w
  | 2 => if w.getLsbD 11 then .tCmpImm8 (w.extractLsb' 8 3) (w.extractLsb' 0 8) else .tMovImm8 (w.extractLsb' 8 3) (w.extractLsb' 0 8)
  | 3 => if w.getLsbD 11 then .tSubImm8 (w.extractLsb' 8 3) (w.extractLsb' 0 8) else .tAddImm8 (w.extractLsb' 8 3) (w.extractLsb' 0 8)
  | 4 =>
    if w.getLsbD 11 then .tLdrPc (w.extractLsb' 8 3) (w.extractLsb' 0 8)
    else if w.getLsbD 10 then decodeThumb5 w
    else decodeThumb4 w
  | 5 => decodeThumb78 w
  | 6 => if w.getLsbD 11 then .tLdrImm (w.extractLsb' 6 5) (w.extractLsb' 3 3) (w.extractLsb' 0 3) else .tStrImm (w.extractLsb' 6 5) (w.extractLsb' 3 3) (w.extractLsb' 0 3)
  | 7 => if w.getLsbD 11 then .tLdrbImm (w.extractLsb' 6 5) (w.extractLsb' 3 3) (w.extractLsb' 0 3) else .tStrbImm (w.extractLsb' 6 5) (w.extractLsb' 3 3) (w.extractLsb' 0 3)
  | 8 => if w.getLsbD 11 then .tLdrhImm (w.extractLsb' 6 5) (w.extractLsb' 3 3) (w.extractLsb' 0 3) else .tStrhImm (w.extractLsb' 6 5) (w.extractLsb' 3 3) (w.extractLsb' 0 3)
  | 9 => if w.getLsbD 11 then .tLdrSp (w.extractLsb' 8 3) (w.extractLsb' 0 8) else .tStrSp (w.extractLsb' 8 3) (w.extractLsb' 0 8)
  | 10 => if w.getLsbD 11 then .tAddSp (w.extractLsb' 8 3) (w.extractLsb' 0 8) else .tAddPc (w.extractLsb' 8 3) (w.extractLsb' 0 8)
  | 11 => decodeThumbMisc w
  | 12 => if w.getLsbD 11 then .tLdmia (w.extractLsb' 8 3) (w.extractLsb' 0 8) else .tStmia (w.extractLsb' 8 3) (w.extractLsb' 0 8)
  | 13 => decodeThumbCond w
  | 14 => if w.getLsbD 11 then .tUndefU3 (w.extractLsb' 0 11) else .tB (w.extractLsb' 0 11)
  | _ => if w.getLsbD 11 then .tBlSuffix (w.extractLsb' 0 11) else .tBlPrefix (w.extractLsb' 0 11)

/-! ## The encoder -/

/-- The field `x` of an encoding placed with its bit 0 at bit `lo` of a word of `N` bits. -/
def put {n : Nat} (N : Nat) (x : BitVec n) (lo : Nat) : BitVec N := x.setWidth N <<< lo

/-- The words of an instruction: one ARM word or one THUMB halfword (R140). -/
inductive Code
  | arm (w : Word)
  | thumb (w : Half)
  deriving DecidableEq, Repr

/-- The encoding of an instruction: each field of its format at its bits (R147..R155, R166). -/
def encode : Instr → Code
  | .andImm c S rn rd rot imm => .arm (put 32 c.code 28 ||| put 32 0b001#3 25 ||| put 32 0#4 21 ||| put 32 (BitVec.ofBool S) 20 ||| put 32 rn 16 ||| put 32 rd 12 ||| put 32 rot 8 ||| put 32 imm 0)
  | .andShiftImm c S rn rd n t rm => .arm (put 32 c.code 28 ||| put 32 0b000#3 25 ||| put 32 0#4 21 ||| put 32 (BitVec.ofBool S) 20 ||| put 32 rn 16 ||| put 32 rd 12 ||| put 32 n 7 ||| put 32 t.code 5 ||| put 32 0#1 4 ||| put 32 rm 0)
  | .andShiftReg c S rn rd rs t rm => .arm (put 32 c.code 28 ||| put 32 0b000#3 25 ||| put 32 0#4 21 ||| put 32 (BitVec.ofBool S) 20 ||| put 32 rn 16 ||| put 32 rd 12 ||| put 32 rs 8 ||| put 32 0#1 7 ||| put 32 t.code 5 ||| put 32 1#1 4 ||| put 32 rm 0)
  | .eorImm c S rn rd rot imm => .arm (put 32 c.code 28 ||| put 32 0b001#3 25 ||| put 32 1#4 21 ||| put 32 (BitVec.ofBool S) 20 ||| put 32 rn 16 ||| put 32 rd 12 ||| put 32 rot 8 ||| put 32 imm 0)
  | .eorShiftImm c S rn rd n t rm => .arm (put 32 c.code 28 ||| put 32 0b000#3 25 ||| put 32 1#4 21 ||| put 32 (BitVec.ofBool S) 20 ||| put 32 rn 16 ||| put 32 rd 12 ||| put 32 n 7 ||| put 32 t.code 5 ||| put 32 0#1 4 ||| put 32 rm 0)
  | .eorShiftReg c S rn rd rs t rm => .arm (put 32 c.code 28 ||| put 32 0b000#3 25 ||| put 32 1#4 21 ||| put 32 (BitVec.ofBool S) 20 ||| put 32 rn 16 ||| put 32 rd 12 ||| put 32 rs 8 ||| put 32 0#1 7 ||| put 32 t.code 5 ||| put 32 1#1 4 ||| put 32 rm 0)
  | .subImm c S rn rd rot imm => .arm (put 32 c.code 28 ||| put 32 0b001#3 25 ||| put 32 2#4 21 ||| put 32 (BitVec.ofBool S) 20 ||| put 32 rn 16 ||| put 32 rd 12 ||| put 32 rot 8 ||| put 32 imm 0)
  | .subShiftImm c S rn rd n t rm => .arm (put 32 c.code 28 ||| put 32 0b000#3 25 ||| put 32 2#4 21 ||| put 32 (BitVec.ofBool S) 20 ||| put 32 rn 16 ||| put 32 rd 12 ||| put 32 n 7 ||| put 32 t.code 5 ||| put 32 0#1 4 ||| put 32 rm 0)
  | .subShiftReg c S rn rd rs t rm => .arm (put 32 c.code 28 ||| put 32 0b000#3 25 ||| put 32 2#4 21 ||| put 32 (BitVec.ofBool S) 20 ||| put 32 rn 16 ||| put 32 rd 12 ||| put 32 rs 8 ||| put 32 0#1 7 ||| put 32 t.code 5 ||| put 32 1#1 4 ||| put 32 rm 0)
  | .rsbImm c S rn rd rot imm => .arm (put 32 c.code 28 ||| put 32 0b001#3 25 ||| put 32 3#4 21 ||| put 32 (BitVec.ofBool S) 20 ||| put 32 rn 16 ||| put 32 rd 12 ||| put 32 rot 8 ||| put 32 imm 0)
  | .rsbShiftImm c S rn rd n t rm => .arm (put 32 c.code 28 ||| put 32 0b000#3 25 ||| put 32 3#4 21 ||| put 32 (BitVec.ofBool S) 20 ||| put 32 rn 16 ||| put 32 rd 12 ||| put 32 n 7 ||| put 32 t.code 5 ||| put 32 0#1 4 ||| put 32 rm 0)
  | .rsbShiftReg c S rn rd rs t rm => .arm (put 32 c.code 28 ||| put 32 0b000#3 25 ||| put 32 3#4 21 ||| put 32 (BitVec.ofBool S) 20 ||| put 32 rn 16 ||| put 32 rd 12 ||| put 32 rs 8 ||| put 32 0#1 7 ||| put 32 t.code 5 ||| put 32 1#1 4 ||| put 32 rm 0)
  | .addImm c S rn rd rot imm => .arm (put 32 c.code 28 ||| put 32 0b001#3 25 ||| put 32 4#4 21 ||| put 32 (BitVec.ofBool S) 20 ||| put 32 rn 16 ||| put 32 rd 12 ||| put 32 rot 8 ||| put 32 imm 0)
  | .addShiftImm c S rn rd n t rm => .arm (put 32 c.code 28 ||| put 32 0b000#3 25 ||| put 32 4#4 21 ||| put 32 (BitVec.ofBool S) 20 ||| put 32 rn 16 ||| put 32 rd 12 ||| put 32 n 7 ||| put 32 t.code 5 ||| put 32 0#1 4 ||| put 32 rm 0)
  | .addShiftReg c S rn rd rs t rm => .arm (put 32 c.code 28 ||| put 32 0b000#3 25 ||| put 32 4#4 21 ||| put 32 (BitVec.ofBool S) 20 ||| put 32 rn 16 ||| put 32 rd 12 ||| put 32 rs 8 ||| put 32 0#1 7 ||| put 32 t.code 5 ||| put 32 1#1 4 ||| put 32 rm 0)
  | .adcImm c S rn rd rot imm => .arm (put 32 c.code 28 ||| put 32 0b001#3 25 ||| put 32 5#4 21 ||| put 32 (BitVec.ofBool S) 20 ||| put 32 rn 16 ||| put 32 rd 12 ||| put 32 rot 8 ||| put 32 imm 0)
  | .adcShiftImm c S rn rd n t rm => .arm (put 32 c.code 28 ||| put 32 0b000#3 25 ||| put 32 5#4 21 ||| put 32 (BitVec.ofBool S) 20 ||| put 32 rn 16 ||| put 32 rd 12 ||| put 32 n 7 ||| put 32 t.code 5 ||| put 32 0#1 4 ||| put 32 rm 0)
  | .adcShiftReg c S rn rd rs t rm => .arm (put 32 c.code 28 ||| put 32 0b000#3 25 ||| put 32 5#4 21 ||| put 32 (BitVec.ofBool S) 20 ||| put 32 rn 16 ||| put 32 rd 12 ||| put 32 rs 8 ||| put 32 0#1 7 ||| put 32 t.code 5 ||| put 32 1#1 4 ||| put 32 rm 0)
  | .sbcImm c S rn rd rot imm => .arm (put 32 c.code 28 ||| put 32 0b001#3 25 ||| put 32 6#4 21 ||| put 32 (BitVec.ofBool S) 20 ||| put 32 rn 16 ||| put 32 rd 12 ||| put 32 rot 8 ||| put 32 imm 0)
  | .sbcShiftImm c S rn rd n t rm => .arm (put 32 c.code 28 ||| put 32 0b000#3 25 ||| put 32 6#4 21 ||| put 32 (BitVec.ofBool S) 20 ||| put 32 rn 16 ||| put 32 rd 12 ||| put 32 n 7 ||| put 32 t.code 5 ||| put 32 0#1 4 ||| put 32 rm 0)
  | .sbcShiftReg c S rn rd rs t rm => .arm (put 32 c.code 28 ||| put 32 0b000#3 25 ||| put 32 6#4 21 ||| put 32 (BitVec.ofBool S) 20 ||| put 32 rn 16 ||| put 32 rd 12 ||| put 32 rs 8 ||| put 32 0#1 7 ||| put 32 t.code 5 ||| put 32 1#1 4 ||| put 32 rm 0)
  | .rscImm c S rn rd rot imm => .arm (put 32 c.code 28 ||| put 32 0b001#3 25 ||| put 32 7#4 21 ||| put 32 (BitVec.ofBool S) 20 ||| put 32 rn 16 ||| put 32 rd 12 ||| put 32 rot 8 ||| put 32 imm 0)
  | .rscShiftImm c S rn rd n t rm => .arm (put 32 c.code 28 ||| put 32 0b000#3 25 ||| put 32 7#4 21 ||| put 32 (BitVec.ofBool S) 20 ||| put 32 rn 16 ||| put 32 rd 12 ||| put 32 n 7 ||| put 32 t.code 5 ||| put 32 0#1 4 ||| put 32 rm 0)
  | .rscShiftReg c S rn rd rs t rm => .arm (put 32 c.code 28 ||| put 32 0b000#3 25 ||| put 32 7#4 21 ||| put 32 (BitVec.ofBool S) 20 ||| put 32 rn 16 ||| put 32 rd 12 ||| put 32 rs 8 ||| put 32 0#1 7 ||| put 32 t.code 5 ||| put 32 1#1 4 ||| put 32 rm 0)
  | .tstImm c rn rd rot imm => .arm (put 32 c.code 28 ||| put 32 0b001#3 25 ||| put 32 8#4 21 ||| put 32 1#1 20 ||| put 32 rn 16 ||| put 32 rd 12 ||| put 32 rot 8 ||| put 32 imm 0)
  | .tstShiftImm c rn rd n t rm => .arm (put 32 c.code 28 ||| put 32 0b000#3 25 ||| put 32 8#4 21 ||| put 32 1#1 20 ||| put 32 rn 16 ||| put 32 rd 12 ||| put 32 n 7 ||| put 32 t.code 5 ||| put 32 0#1 4 ||| put 32 rm 0)
  | .tstShiftReg c rn rd rs t rm => .arm (put 32 c.code 28 ||| put 32 0b000#3 25 ||| put 32 8#4 21 ||| put 32 1#1 20 ||| put 32 rn 16 ||| put 32 rd 12 ||| put 32 rs 8 ||| put 32 0#1 7 ||| put 32 t.code 5 ||| put 32 1#1 4 ||| put 32 rm 0)
  | .teqImm c rn rd rot imm => .arm (put 32 c.code 28 ||| put 32 0b001#3 25 ||| put 32 9#4 21 ||| put 32 1#1 20 ||| put 32 rn 16 ||| put 32 rd 12 ||| put 32 rot 8 ||| put 32 imm 0)
  | .teqShiftImm c rn rd n t rm => .arm (put 32 c.code 28 ||| put 32 0b000#3 25 ||| put 32 9#4 21 ||| put 32 1#1 20 ||| put 32 rn 16 ||| put 32 rd 12 ||| put 32 n 7 ||| put 32 t.code 5 ||| put 32 0#1 4 ||| put 32 rm 0)
  | .teqShiftReg c rn rd rs t rm => .arm (put 32 c.code 28 ||| put 32 0b000#3 25 ||| put 32 9#4 21 ||| put 32 1#1 20 ||| put 32 rn 16 ||| put 32 rd 12 ||| put 32 rs 8 ||| put 32 0#1 7 ||| put 32 t.code 5 ||| put 32 1#1 4 ||| put 32 rm 0)
  | .cmpImm c rn rd rot imm => .arm (put 32 c.code 28 ||| put 32 0b001#3 25 ||| put 32 10#4 21 ||| put 32 1#1 20 ||| put 32 rn 16 ||| put 32 rd 12 ||| put 32 rot 8 ||| put 32 imm 0)
  | .cmpShiftImm c rn rd n t rm => .arm (put 32 c.code 28 ||| put 32 0b000#3 25 ||| put 32 10#4 21 ||| put 32 1#1 20 ||| put 32 rn 16 ||| put 32 rd 12 ||| put 32 n 7 ||| put 32 t.code 5 ||| put 32 0#1 4 ||| put 32 rm 0)
  | .cmpShiftReg c rn rd rs t rm => .arm (put 32 c.code 28 ||| put 32 0b000#3 25 ||| put 32 10#4 21 ||| put 32 1#1 20 ||| put 32 rn 16 ||| put 32 rd 12 ||| put 32 rs 8 ||| put 32 0#1 7 ||| put 32 t.code 5 ||| put 32 1#1 4 ||| put 32 rm 0)
  | .cmnImm c rn rd rot imm => .arm (put 32 c.code 28 ||| put 32 0b001#3 25 ||| put 32 11#4 21 ||| put 32 1#1 20 ||| put 32 rn 16 ||| put 32 rd 12 ||| put 32 rot 8 ||| put 32 imm 0)
  | .cmnShiftImm c rn rd n t rm => .arm (put 32 c.code 28 ||| put 32 0b000#3 25 ||| put 32 11#4 21 ||| put 32 1#1 20 ||| put 32 rn 16 ||| put 32 rd 12 ||| put 32 n 7 ||| put 32 t.code 5 ||| put 32 0#1 4 ||| put 32 rm 0)
  | .cmnShiftReg c rn rd rs t rm => .arm (put 32 c.code 28 ||| put 32 0b000#3 25 ||| put 32 11#4 21 ||| put 32 1#1 20 ||| put 32 rn 16 ||| put 32 rd 12 ||| put 32 rs 8 ||| put 32 0#1 7 ||| put 32 t.code 5 ||| put 32 1#1 4 ||| put 32 rm 0)
  | .orrImm c S rn rd rot imm => .arm (put 32 c.code 28 ||| put 32 0b001#3 25 ||| put 32 12#4 21 ||| put 32 (BitVec.ofBool S) 20 ||| put 32 rn 16 ||| put 32 rd 12 ||| put 32 rot 8 ||| put 32 imm 0)
  | .orrShiftImm c S rn rd n t rm => .arm (put 32 c.code 28 ||| put 32 0b000#3 25 ||| put 32 12#4 21 ||| put 32 (BitVec.ofBool S) 20 ||| put 32 rn 16 ||| put 32 rd 12 ||| put 32 n 7 ||| put 32 t.code 5 ||| put 32 0#1 4 ||| put 32 rm 0)
  | .orrShiftReg c S rn rd rs t rm => .arm (put 32 c.code 28 ||| put 32 0b000#3 25 ||| put 32 12#4 21 ||| put 32 (BitVec.ofBool S) 20 ||| put 32 rn 16 ||| put 32 rd 12 ||| put 32 rs 8 ||| put 32 0#1 7 ||| put 32 t.code 5 ||| put 32 1#1 4 ||| put 32 rm 0)
  | .movImm c S rn rd rot imm => .arm (put 32 c.code 28 ||| put 32 0b001#3 25 ||| put 32 13#4 21 ||| put 32 (BitVec.ofBool S) 20 ||| put 32 rn 16 ||| put 32 rd 12 ||| put 32 rot 8 ||| put 32 imm 0)
  | .movShiftImm c S rn rd n t rm => .arm (put 32 c.code 28 ||| put 32 0b000#3 25 ||| put 32 13#4 21 ||| put 32 (BitVec.ofBool S) 20 ||| put 32 rn 16 ||| put 32 rd 12 ||| put 32 n 7 ||| put 32 t.code 5 ||| put 32 0#1 4 ||| put 32 rm 0)
  | .movShiftReg c S rn rd rs t rm => .arm (put 32 c.code 28 ||| put 32 0b000#3 25 ||| put 32 13#4 21 ||| put 32 (BitVec.ofBool S) 20 ||| put 32 rn 16 ||| put 32 rd 12 ||| put 32 rs 8 ||| put 32 0#1 7 ||| put 32 t.code 5 ||| put 32 1#1 4 ||| put 32 rm 0)
  | .bicImm c S rn rd rot imm => .arm (put 32 c.code 28 ||| put 32 0b001#3 25 ||| put 32 14#4 21 ||| put 32 (BitVec.ofBool S) 20 ||| put 32 rn 16 ||| put 32 rd 12 ||| put 32 rot 8 ||| put 32 imm 0)
  | .bicShiftImm c S rn rd n t rm => .arm (put 32 c.code 28 ||| put 32 0b000#3 25 ||| put 32 14#4 21 ||| put 32 (BitVec.ofBool S) 20 ||| put 32 rn 16 ||| put 32 rd 12 ||| put 32 n 7 ||| put 32 t.code 5 ||| put 32 0#1 4 ||| put 32 rm 0)
  | .bicShiftReg c S rn rd rs t rm => .arm (put 32 c.code 28 ||| put 32 0b000#3 25 ||| put 32 14#4 21 ||| put 32 (BitVec.ofBool S) 20 ||| put 32 rn 16 ||| put 32 rd 12 ||| put 32 rs 8 ||| put 32 0#1 7 ||| put 32 t.code 5 ||| put 32 1#1 4 ||| put 32 rm 0)
  | .mvnImm c S rn rd rot imm => .arm (put 32 c.code 28 ||| put 32 0b001#3 25 ||| put 32 15#4 21 ||| put 32 (BitVec.ofBool S) 20 ||| put 32 rn 16 ||| put 32 rd 12 ||| put 32 rot 8 ||| put 32 imm 0)
  | .mvnShiftImm c S rn rd n t rm => .arm (put 32 c.code 28 ||| put 32 0b000#3 25 ||| put 32 15#4 21 ||| put 32 (BitVec.ofBool S) 20 ||| put 32 rn 16 ||| put 32 rd 12 ||| put 32 n 7 ||| put 32 t.code 5 ||| put 32 0#1 4 ||| put 32 rm 0)
  | .mvnShiftReg c S rn rd rs t rm => .arm (put 32 c.code 28 ||| put 32 0b000#3 25 ||| put 32 15#4 21 ||| put 32 (BitVec.ofBool S) 20 ||| put 32 rn 16 ||| put 32 rd 12 ||| put 32 rs 8 ||| put 32 0#1 7 ||| put 32 t.code 5 ||| put 32 1#1 4 ||| put 32 rm 0)
  | .mrs c R x1 rd x2 x3 => .arm (put 32 c.code 28 ||| put 32 0b00010#5 23 ||| put 32 (BitVec.ofBool R) 22 ||| put 32 0b00#2 20 ||| put 32 x1 16 ||| put 32 rd 12 ||| put 32 x2 8 ||| put 32 0#4 4 ||| put 32 x3 0)
  | .msrReg c R f x1 x2 rm => .arm (put 32 c.code 28 ||| put 32 0b00010#5 23 ||| put 32 (BitVec.ofBool R) 22 ||| put 32 0b10#2 20 ||| put 32 f 16 ||| put 32 x1 12 ||| put 32 x2 8 ||| put 32 0#4 4 ||| put 32 rm 0)
  | .msrImm c R f x1 rot imm => .arm (put 32 c.code 28 ||| put 32 0b00110#5 23 ||| put 32 (BitVec.ofBool R) 22 ||| put 32 0b10#2 20 ||| put 32 f 16 ||| put 32 x1 12 ||| put 32 rot 8 ||| put 32 imm 0)
  | .bx c x1 rm => .arm (put 32 c.code 28 ||| put 32 0b00010010#8 20 ||| put 32 x1 8 ||| put 32 0b0001#4 4 ||| put 32 rm 0)
  | .mul c S rd rn rs rm => .arm (put 32 c.code 28 ||| put 32 0b000000#6 22 ||| put 32 0#1 21 ||| put 32 (BitVec.ofBool S) 20 ||| put 32 rd 16 ||| put 32 rn 12 ||| put 32 rs 8 ||| put 32 0b1001#4 4 ||| put 32 rm 0)
  | .mla c S rd rn rs rm => .arm (put 32 c.code 28 ||| put 32 0b000000#6 22 ||| put 32 1#1 21 ||| put 32 (BitVec.ofBool S) 20 ||| put 32 rd 16 ||| put 32 rn 12 ||| put 32 rs 8 ||| put 32 0b1001#4 4 ||| put 32 rm 0)
  | .umull c S rdHi rdLo rs rm => .arm (put 32 c.code 28 ||| put 32 0b00001#5 23 ||| put 32 0#2 21 ||| put 32 (BitVec.ofBool S) 20 ||| put 32 rdHi 16 ||| put 32 rdLo 12 ||| put 32 rs 8 ||| put 32 0b1001#4 4 ||| put 32 rm 0)
  | .umlal c S rdHi rdLo rs rm => .arm (put 32 c.code 28 ||| put 32 0b00001#5 23 ||| put 32 1#2 21 ||| put 32 (BitVec.ofBool S) 20 ||| put 32 rdHi 16 ||| put 32 rdLo 12 ||| put 32 rs 8 ||| put 32 0b1001#4 4 ||| put 32 rm 0)
  | .smull c S rdHi rdLo rs rm => .arm (put 32 c.code 28 ||| put 32 0b00001#5 23 ||| put 32 2#2 21 ||| put 32 (BitVec.ofBool S) 20 ||| put 32 rdHi 16 ||| put 32 rdLo 12 ||| put 32 rs 8 ||| put 32 0b1001#4 4 ||| put 32 rm 0)
  | .smlal c S rdHi rdLo rs rm => .arm (put 32 c.code 28 ||| put 32 0b00001#5 23 ||| put 32 3#2 21 ||| put 32 (BitVec.ofBool S) 20 ||| put 32 rdHi 16 ||| put 32 rdLo 12 ||| put 32 rs 8 ||| put 32 0b1001#4 4 ||| put 32 rm 0)
  | .swp c rn rd x1 rm => .arm (put 32 c.code 28 ||| put 32 0b000#3 25 ||| put 32 0b10000#5 20 ||| put 32 rn 16 ||| put 32 rd 12 ||| put 32 x1 8 ||| put 32 0b1001#4 4 ||| put 32 rm 0)
  | .swpb c rn rd x1 rm => .arm (put 32 c.code 28 ||| put 32 0b000#3 25 ||| put 32 0b10100#5 20 ||| put 32 rn 16 ||| put 32 rd 12 ||| put 32 x1 8 ||| put 32 0b1001#4 4 ||| put 32 rm 0)
  | .undefU1 c op x1 x2 => .arm (put 32 c.code 28 ||| put 32 0b000#3 25 ||| put 32 op 20 ||| put 32 x1 8 ||| put 32 0b1001#4 4 ||| put 32 x2 0)
  | .strh c p u w rn rd off => .arm (put 32 c.code 28 ||| put 32 0b000#3 25 ||| put 32 (BitVec.ofBool p) 24 ||| put 32 (BitVec.ofBool u) 23 ||| put 32 (BitVec.ofBool off.isImm) 22 ||| put 32 (BitVec.ofBool w) 21 ||| put 32 0#1 20 ||| put 32 rn 16 ||| put 32 rd 12 ||| put 32 off.hi 8 ||| put 32 1#1 7 ||| put 32 1#2 5 ||| put 32 1#1 4 ||| put 32 off.lo 0)
  | .ldrh c p u w rn rd off => .arm (put 32 c.code 28 ||| put 32 0b000#3 25 ||| put 32 (BitVec.ofBool p) 24 ||| put 32 (BitVec.ofBool u) 23 ||| put 32 (BitVec.ofBool off.isImm) 22 ||| put 32 (BitVec.ofBool w) 21 ||| put 32 1#1 20 ||| put 32 rn 16 ||| put 32 rd 12 ||| put 32 off.hi 8 ||| put 32 1#1 7 ||| put 32 1#2 5 ||| put 32 1#1 4 ||| put 32 off.lo 0)
  | .ldrsb c p u w rn rd off => .arm (put 32 c.code 28 ||| put 32 0b000#3 25 ||| put 32 (BitVec.ofBool p) 24 ||| put 32 (BitVec.ofBool u) 23 ||| put 32 (BitVec.ofBool off.isImm) 22 ||| put 32 (BitVec.ofBool w) 21 ||| put 32 1#1 20 ||| put 32 rn 16 ||| put 32 rd 12 ||| put 32 off.hi 8 ||| put 32 1#1 7 ||| put 32 2#2 5 ||| put 32 1#1 4 ||| put 32 off.lo 0)
  | .ldrsh c p u w rn rd off => .arm (put 32 c.code 28 ||| put 32 0b000#3 25 ||| put 32 (BitVec.ofBool p) 24 ||| put 32 (BitVec.ofBool u) 23 ||| put 32 (BitVec.ofBool off.isImm) 22 ||| put 32 (BitVec.ofBool w) 21 ||| put 32 1#1 20 ||| put 32 rn 16 ||| put 32 rd 12 ||| put 32 off.hi 8 ||| put 32 1#1 7 ||| put 32 3#2 5 ||| put 32 1#1 4 ||| put 32 off.lo 0)
  | .undefU2 c op x1 h x2 => .arm (put 32 c.code 28 ||| put 32 0b000#3 25 ||| put 32 op 21 ||| put 32 0#1 20 ||| put 32 x1 8 ||| put 32 0b11#2 6 ||| put 32 (BitVec.ofBool h) 5 ||| put 32 1#1 4 ||| put 32 x2 0)
  | .undefU3 c op x1 lo x2 => .arm (put 32 c.code 28 ||| put 32 0b00010#5 23 ||| put 32 op 21 ||| put 32 0#1 20 ||| put 32 x1 8 ||| put 32 lo 4 ||| put 32 x2 0)
  | .undefU4 c R x1 => .arm (put 32 c.code 28 ||| put 32 0b00110#5 23 ||| put 32 (BitVec.ofBool R) 22 ||| put 32 0b00#2 20 ||| put 32 x1 0)
  | .ldrImmPre c u w rn rd off => .arm (put 32 c.code 28 ||| put 32 0b010#3 25 ||| put 32 1#1 24 ||| put 32 (BitVec.ofBool u) 23 ||| put 32 0#1 22 ||| put 32 (BitVec.ofBool w) 21 ||| put 32 1#1 20 ||| put 32 rn 16 ||| put 32 rd 12 ||| put 32 off 0)
  | .ldrImmPost c u rn rd off => .arm (put 32 c.code 28 ||| put 32 0b010#3 25 ||| put 32 0#1 24 ||| put 32 (BitVec.ofBool u) 23 ||| put 32 0#1 22 ||| put 32 0#1 21 ||| put 32 1#1 20 ||| put 32 rn 16 ||| put 32 rd 12 ||| put 32 off 0)
  | .ldrRegPre c u w rn rd n t rm => .arm (put 32 c.code 28 ||| put 32 0b011#3 25 ||| put 32 1#1 24 ||| put 32 (BitVec.ofBool u) 23 ||| put 32 0#1 22 ||| put 32 (BitVec.ofBool w) 21 ||| put 32 1#1 20 ||| put 32 rn 16 ||| put 32 rd 12 ||| put 32 n 7 ||| put 32 t.code 5 ||| put 32 0#1 4 ||| put 32 rm 0)
  | .ldrRegPost c u rn rd n t rm => .arm (put 32 c.code 28 ||| put 32 0b011#3 25 ||| put 32 0#1 24 ||| put 32 (BitVec.ofBool u) 23 ||| put 32 0#1 22 ||| put 32 0#1 21 ||| put 32 1#1 20 ||| put 32 rn 16 ||| put 32 rd 12 ||| put 32 n 7 ||| put 32 t.code 5 ||| put 32 0#1 4 ||| put 32 rm 0)
  | .strImmPre c u w rn rd off => .arm (put 32 c.code 28 ||| put 32 0b010#3 25 ||| put 32 1#1 24 ||| put 32 (BitVec.ofBool u) 23 ||| put 32 0#1 22 ||| put 32 (BitVec.ofBool w) 21 ||| put 32 0#1 20 ||| put 32 rn 16 ||| put 32 rd 12 ||| put 32 off 0)
  | .strImmPost c u rn rd off => .arm (put 32 c.code 28 ||| put 32 0b010#3 25 ||| put 32 0#1 24 ||| put 32 (BitVec.ofBool u) 23 ||| put 32 0#1 22 ||| put 32 0#1 21 ||| put 32 0#1 20 ||| put 32 rn 16 ||| put 32 rd 12 ||| put 32 off 0)
  | .strRegPre c u w rn rd n t rm => .arm (put 32 c.code 28 ||| put 32 0b011#3 25 ||| put 32 1#1 24 ||| put 32 (BitVec.ofBool u) 23 ||| put 32 0#1 22 ||| put 32 (BitVec.ofBool w) 21 ||| put 32 0#1 20 ||| put 32 rn 16 ||| put 32 rd 12 ||| put 32 n 7 ||| put 32 t.code 5 ||| put 32 0#1 4 ||| put 32 rm 0)
  | .strRegPost c u rn rd n t rm => .arm (put 32 c.code 28 ||| put 32 0b011#3 25 ||| put 32 0#1 24 ||| put 32 (BitVec.ofBool u) 23 ||| put 32 0#1 22 ||| put 32 0#1 21 ||| put 32 0#1 20 ||| put 32 rn 16 ||| put 32 rd 12 ||| put 32 n 7 ||| put 32 t.code 5 ||| put 32 0#1 4 ||| put 32 rm 0)
  | .ldrbImmPre c u w rn rd off => .arm (put 32 c.code 28 ||| put 32 0b010#3 25 ||| put 32 1#1 24 ||| put 32 (BitVec.ofBool u) 23 ||| put 32 1#1 22 ||| put 32 (BitVec.ofBool w) 21 ||| put 32 1#1 20 ||| put 32 rn 16 ||| put 32 rd 12 ||| put 32 off 0)
  | .ldrbImmPost c u rn rd off => .arm (put 32 c.code 28 ||| put 32 0b010#3 25 ||| put 32 0#1 24 ||| put 32 (BitVec.ofBool u) 23 ||| put 32 1#1 22 ||| put 32 0#1 21 ||| put 32 1#1 20 ||| put 32 rn 16 ||| put 32 rd 12 ||| put 32 off 0)
  | .ldrbRegPre c u w rn rd n t rm => .arm (put 32 c.code 28 ||| put 32 0b011#3 25 ||| put 32 1#1 24 ||| put 32 (BitVec.ofBool u) 23 ||| put 32 1#1 22 ||| put 32 (BitVec.ofBool w) 21 ||| put 32 1#1 20 ||| put 32 rn 16 ||| put 32 rd 12 ||| put 32 n 7 ||| put 32 t.code 5 ||| put 32 0#1 4 ||| put 32 rm 0)
  | .ldrbRegPost c u rn rd n t rm => .arm (put 32 c.code 28 ||| put 32 0b011#3 25 ||| put 32 0#1 24 ||| put 32 (BitVec.ofBool u) 23 ||| put 32 1#1 22 ||| put 32 0#1 21 ||| put 32 1#1 20 ||| put 32 rn 16 ||| put 32 rd 12 ||| put 32 n 7 ||| put 32 t.code 5 ||| put 32 0#1 4 ||| put 32 rm 0)
  | .strbImmPre c u w rn rd off => .arm (put 32 c.code 28 ||| put 32 0b010#3 25 ||| put 32 1#1 24 ||| put 32 (BitVec.ofBool u) 23 ||| put 32 1#1 22 ||| put 32 (BitVec.ofBool w) 21 ||| put 32 0#1 20 ||| put 32 rn 16 ||| put 32 rd 12 ||| put 32 off 0)
  | .strbImmPost c u rn rd off => .arm (put 32 c.code 28 ||| put 32 0b010#3 25 ||| put 32 0#1 24 ||| put 32 (BitVec.ofBool u) 23 ||| put 32 1#1 22 ||| put 32 0#1 21 ||| put 32 0#1 20 ||| put 32 rn 16 ||| put 32 rd 12 ||| put 32 off 0)
  | .strbRegPre c u w rn rd n t rm => .arm (put 32 c.code 28 ||| put 32 0b011#3 25 ||| put 32 1#1 24 ||| put 32 (BitVec.ofBool u) 23 ||| put 32 1#1 22 ||| put 32 (BitVec.ofBool w) 21 ||| put 32 0#1 20 ||| put 32 rn 16 ||| put 32 rd 12 ||| put 32 n 7 ||| put 32 t.code 5 ||| put 32 0#1 4 ||| put 32 rm 0)
  | .strbRegPost c u rn rd n t rm => .arm (put 32 c.code 28 ||| put 32 0b011#3 25 ||| put 32 0#1 24 ||| put 32 (BitVec.ofBool u) 23 ||| put 32 1#1 22 ||| put 32 0#1 21 ||| put 32 0#1 20 ||| put 32 rn 16 ||| put 32 rd 12 ||| put 32 n 7 ||| put 32 t.code 5 ||| put 32 0#1 4 ||| put 32 rm 0)
  | .ldrtImm c u rn rd off => .arm (put 32 c.code 28 ||| put 32 0b010#3 25 ||| put 32 0#1 24 ||| put 32 (BitVec.ofBool u) 23 ||| put 32 0#1 22 ||| put 32 1#1 21 ||| put 32 1#1 20 ||| put 32 rn 16 ||| put 32 rd 12 ||| put 32 off 0)
  | .ldrtReg c u rn rd n t rm => .arm (put 32 c.code 28 ||| put 32 0b011#3 25 ||| put 32 0#1 24 ||| put 32 (BitVec.ofBool u) 23 ||| put 32 0#1 22 ||| put 32 1#1 21 ||| put 32 1#1 20 ||| put 32 rn 16 ||| put 32 rd 12 ||| put 32 n 7 ||| put 32 t.code 5 ||| put 32 0#1 4 ||| put 32 rm 0)
  | .strtImm c u rn rd off => .arm (put 32 c.code 28 ||| put 32 0b010#3 25 ||| put 32 0#1 24 ||| put 32 (BitVec.ofBool u) 23 ||| put 32 0#1 22 ||| put 32 1#1 21 ||| put 32 0#1 20 ||| put 32 rn 16 ||| put 32 rd 12 ||| put 32 off 0)
  | .strtReg c u rn rd n t rm => .arm (put 32 c.code 28 ||| put 32 0b011#3 25 ||| put 32 0#1 24 ||| put 32 (BitVec.ofBool u) 23 ||| put 32 0#1 22 ||| put 32 1#1 21 ||| put 32 0#1 20 ||| put 32 rn 16 ||| put 32 rd 12 ||| put 32 n 7 ||| put 32 t.code 5 ||| put 32 0#1 4 ||| put 32 rm 0)
  | .ldrbtImm c u rn rd off => .arm (put 32 c.code 28 ||| put 32 0b010#3 25 ||| put 32 0#1 24 ||| put 32 (BitVec.ofBool u) 23 ||| put 32 1#1 22 ||| put 32 1#1 21 ||| put 32 1#1 20 ||| put 32 rn 16 ||| put 32 rd 12 ||| put 32 off 0)
  | .ldrbtReg c u rn rd n t rm => .arm (put 32 c.code 28 ||| put 32 0b011#3 25 ||| put 32 0#1 24 ||| put 32 (BitVec.ofBool u) 23 ||| put 32 1#1 22 ||| put 32 1#1 21 ||| put 32 1#1 20 ||| put 32 rn 16 ||| put 32 rd 12 ||| put 32 n 7 ||| put 32 t.code 5 ||| put 32 0#1 4 ||| put 32 rm 0)
  | .strbtImm c u rn rd off => .arm (put 32 c.code 28 ||| put 32 0b010#3 25 ||| put 32 0#1 24 ||| put 32 (BitVec.ofBool u) 23 ||| put 32 1#1 22 ||| put 32 1#1 21 ||| put 32 0#1 20 ||| put 32 rn 16 ||| put 32 rd 12 ||| put 32 off 0)
  | .strbtReg c u rn rd n t rm => .arm (put 32 c.code 28 ||| put 32 0b011#3 25 ||| put 32 0#1 24 ||| put 32 (BitVec.ofBool u) 23 ||| put 32 1#1 22 ||| put 32 1#1 21 ||| put 32 0#1 20 ||| put 32 rn 16 ||| put 32 rd 12 ||| put 32 n 7 ||| put 32 t.code 5 ||| put 32 0#1 4 ||| put 32 rm 0)
  | .undefU5 c x1 x2 => .arm (put 32 c.code 28 ||| put 32 0b011#3 25 ||| put 32 x1 5 ||| put 32 1#1 4 ||| put 32 x2 0)
  | .ldm c p u S w rn l => .arm (put 32 c.code 28 ||| put 32 0b100#3 25 ||| put 32 (BitVec.ofBool p) 24 ||| put 32 (BitVec.ofBool u) 23 ||| put 32 (BitVec.ofBool S) 22 ||| put 32 (BitVec.ofBool w) 21 ||| put 32 1#1 20 ||| put 32 rn 16 ||| put 32 l 0)
  | .stm c p u S w rn l => .arm (put 32 c.code 28 ||| put 32 0b100#3 25 ||| put 32 (BitVec.ofBool p) 24 ||| put 32 (BitVec.ofBool u) 23 ||| put 32 (BitVec.ofBool S) 22 ||| put 32 (BitVec.ofBool w) 21 ||| put 32 0#1 20 ||| put 32 rn 16 ||| put 32 l 0)
  | .b c off => .arm (put 32 c.code 28 ||| put 32 0b101#3 25 ||| put 32 0#1 24 ||| put 32 off 0)
  | .bl c off => .arm (put 32 c.code 28 ||| put 32 0b101#3 25 ||| put 32 1#1 24 ||| put 32 off 0)
  | .ldc c p u n w rn crd cp off => .arm (put 32 c.code 28 ||| put 32 0b110#3 25 ||| put 32 (BitVec.ofBool p) 24 ||| put 32 (BitVec.ofBool u) 23 ||| put 32 (BitVec.ofBool n) 22 ||| put 32 (BitVec.ofBool w) 21 ||| put 32 1#1 20 ||| put 32 rn 16 ||| put 32 crd 12 ||| put 32 cp 8 ||| put 32 off 0)
  | .stc c p u n w rn crd cp off => .arm (put 32 c.code 28 ||| put 32 0b110#3 25 ||| put 32 (BitVec.ofBool p) 24 ||| put 32 (BitVec.ofBool u) 23 ||| put 32 (BitVec.ofBool n) 22 ||| put 32 (BitVec.ofBool w) 21 ||| put 32 0#1 20 ||| put 32 rn 16 ||| put 32 crd 12 ||| put 32 cp 8 ||| put 32 off 0)
  | .cdp c opc crn crd cp info crm => .arm (put 32 c.code 28 ||| put 32 0b1110#4 24 ||| put 32 opc 20 ||| put 32 crn 16 ||| put 32 crd 12 ||| put 32 cp 8 ||| put 32 info 5 ||| put 32 0#1 4 ||| put 32 crm 0)
  | .mcr c opc crn rd cp info crm => .arm (put 32 c.code 28 ||| put 32 0b1110#4 24 ||| put 32 opc 21 ||| put 32 0#1 20 ||| put 32 crn 16 ||| put 32 rd 12 ||| put 32 cp 8 ||| put 32 info 5 ||| put 32 1#1 4 ||| put 32 crm 0)
  | .mrc c opc crn rd cp info crm => .arm (put 32 c.code 28 ||| put 32 0b1110#4 24 ||| put 32 opc 21 ||| put 32 1#1 20 ||| put 32 crn 16 ||| put 32 rd 12 ||| put 32 cp 8 ||| put 32 info 5 ||| put 32 1#1 4 ||| put 32 crm 0)
  | .swi c comment => .arm (put 32 c.code 28 ||| put 32 0b1111#4 24 ||| put 32 comment 0)
  | .tLslImm off rs rd => .thumb (put 16 0b000#3 13 ||| put 16 0#2 11 ||| put 16 off 6 ||| put 16 rs 3 ||| put 16 rd 0)
  | .tLsrImm off rs rd => .thumb (put 16 0b000#3 13 ||| put 16 1#2 11 ||| put 16 off 6 ||| put 16 rs 3 ||| put 16 rd 0)
  | .tAsrImm off rs rd => .thumb (put 16 0b000#3 13 ||| put 16 2#2 11 ||| put 16 off 6 ||| put 16 rs 3 ||| put 16 rd 0)
  | .tAddReg rn rs rd => .thumb (put 16 0b00011#5 11 ||| put 16 0#2 9 ||| put 16 rn 6 ||| put 16 rs 3 ||| put 16 rd 0)
  | .tSubReg rn rs rd => .thumb (put 16 0b00011#5 11 ||| put 16 1#2 9 ||| put 16 rn 6 ||| put 16 rs 3 ||| put 16 rd 0)
  | .tAddImm3 imm rs rd => .thumb (put 16 0b00011#5 11 ||| put 16 2#2 9 ||| put 16 imm 6 ||| put 16 rs 3 ||| put 16 rd 0)
  | .tSubImm3 imm rs rd => .thumb (put 16 0b00011#5 11 ||| put 16 3#2 9 ||| put 16 imm 6 ||| put 16 rs 3 ||| put 16 rd 0)
  | .tMovImm8 rd imm => .thumb (put 16 0b001#3 13 ||| put 16 0#2 11 ||| put 16 rd 8 ||| put 16 imm 0)
  | .tCmpImm8 rd imm => .thumb (put 16 0b001#3 13 ||| put 16 1#2 11 ||| put 16 rd 8 ||| put 16 imm 0)
  | .tAddImm8 rd imm => .thumb (put 16 0b001#3 13 ||| put 16 2#2 11 ||| put 16 rd 8 ||| put 16 imm 0)
  | .tSubImm8 rd imm => .thumb (put 16 0b001#3 13 ||| put 16 3#2 11 ||| put 16 rd 8 ||| put 16 imm 0)
  | .tAnd rs rd => .thumb (put 16 0b010000#6 10 ||| put 16 0#4 6 ||| put 16 rs 3 ||| put 16 rd 0)
  | .tEor rs rd => .thumb (put 16 0b010000#6 10 ||| put 16 1#4 6 ||| put 16 rs 3 ||| put 16 rd 0)
  | .tLsl rs rd => .thumb (put 16 0b010000#6 10 ||| put 16 2#4 6 ||| put 16 rs 3 ||| put 16 rd 0)
  | .tLsr rs rd => .thumb (put 16 0b010000#6 10 ||| put 16 3#4 6 ||| put 16 rs 3 ||| put 16 rd 0)
  | .tAsr rs rd => .thumb (put 16 0b010000#6 10 ||| put 16 4#4 6 ||| put 16 rs 3 ||| put 16 rd 0)
  | .tAdc rs rd => .thumb (put 16 0b010000#6 10 ||| put 16 5#4 6 ||| put 16 rs 3 ||| put 16 rd 0)
  | .tSbc rs rd => .thumb (put 16 0b010000#6 10 ||| put 16 6#4 6 ||| put 16 rs 3 ||| put 16 rd 0)
  | .tRor rs rd => .thumb (put 16 0b010000#6 10 ||| put 16 7#4 6 ||| put 16 rs 3 ||| put 16 rd 0)
  | .tTst rs rd => .thumb (put 16 0b010000#6 10 ||| put 16 8#4 6 ||| put 16 rs 3 ||| put 16 rd 0)
  | .tNeg rs rd => .thumb (put 16 0b010000#6 10 ||| put 16 9#4 6 ||| put 16 rs 3 ||| put 16 rd 0)
  | .tCmp rs rd => .thumb (put 16 0b010000#6 10 ||| put 16 10#4 6 ||| put 16 rs 3 ||| put 16 rd 0)
  | .tCmn rs rd => .thumb (put 16 0b010000#6 10 ||| put 16 11#4 6 ||| put 16 rs 3 ||| put 16 rd 0)
  | .tOrr rs rd => .thumb (put 16 0b010000#6 10 ||| put 16 12#4 6 ||| put 16 rs 3 ||| put 16 rd 0)
  | .tMul rs rd => .thumb (put 16 0b010000#6 10 ||| put 16 13#4 6 ||| put 16 rs 3 ||| put 16 rd 0)
  | .tBic rs rd => .thumb (put 16 0b010000#6 10 ||| put 16 14#4 6 ||| put 16 rs 3 ||| put 16 rd 0)
  | .tMvn rs rd => .thumb (put 16 0b010000#6 10 ||| put 16 15#4 6 ||| put 16 rs 3 ||| put 16 rd 0)
  | .tAddHi h1 h2 rs rd => .thumb (put 16 0b010001#6 10 ||| put 16 0#2 8 ||| put 16 (BitVec.ofBool h1) 7 ||| put 16 (BitVec.ofBool h2) 6 ||| put 16 rs 3 ||| put 16 rd 0)
  | .tCmpHi h1 h2 rs rd => .thumb (put 16 0b010001#6 10 ||| put 16 1#2 8 ||| put 16 (BitVec.ofBool h1) 7 ||| put 16 (BitVec.ofBool h2) 6 ||| put 16 rs 3 ||| put 16 rd 0)
  | .tMovHi h1 h2 rs rd => .thumb (put 16 0b010001#6 10 ||| put 16 2#2 8 ||| put 16 (BitVec.ofBool h1) 7 ||| put 16 (BitVec.ofBool h2) 6 ||| put 16 rs 3 ||| put 16 rd 0)
  | .tBx h1 h2 rs x1 => .thumb (put 16 0b010001#6 10 ||| put 16 3#2 8 ||| put 16 (BitVec.ofBool h1) 7 ||| put 16 (BitVec.ofBool h2) 6 ||| put 16 rs 3 ||| put 16 x1 0)
  | .tLdrPc rd word8 => .thumb (put 16 0b01001#5 11 ||| put 16 rd 8 ||| put 16 word8 0)
  | .tStrReg ro rb rd => .thumb (put 16 0b0101#4 12 ||| put 16 0#3 9 ||| put 16 ro 6 ||| put 16 rb 3 ||| put 16 rd 0)
  | .tStrbReg ro rb rd => .thumb (put 16 0b0101#4 12 ||| put 16 2#3 9 ||| put 16 ro 6 ||| put 16 rb 3 ||| put 16 rd 0)
  | .tLdrReg ro rb rd => .thumb (put 16 0b0101#4 12 ||| put 16 4#3 9 ||| put 16 ro 6 ||| put 16 rb 3 ||| put 16 rd 0)
  | .tLdrbReg ro rb rd => .thumb (put 16 0b0101#4 12 ||| put 16 6#3 9 ||| put 16 ro 6 ||| put 16 rb 3 ||| put 16 rd 0)
  | .tStrhReg ro rb rd => .thumb (put 16 0b0101#4 12 ||| put 16 1#3 9 ||| put 16 ro 6 ||| put 16 rb 3 ||| put 16 rd 0)
  | .tLdsbReg ro rb rd => .thumb (put 16 0b0101#4 12 ||| put 16 3#3 9 ||| put 16 ro 6 ||| put 16 rb 3 ||| put 16 rd 0)
  | .tLdrhReg ro rb rd => .thumb (put 16 0b0101#4 12 ||| put 16 5#3 9 ||| put 16 ro 6 ||| put 16 rb 3 ||| put 16 rd 0)
  | .tLdshReg ro rb rd => .thumb (put 16 0b0101#4 12 ||| put 16 7#3 9 ||| put 16 ro 6 ||| put 16 rb 3 ||| put 16 rd 0)
  | .tStrImm off rb rd => .thumb (put 16 0b011#3 13 ||| put 16 0#2 11 ||| put 16 off 6 ||| put 16 rb 3 ||| put 16 rd 0)
  | .tLdrImm off rb rd => .thumb (put 16 0b011#3 13 ||| put 16 1#2 11 ||| put 16 off 6 ||| put 16 rb 3 ||| put 16 rd 0)
  | .tStrbImm off rb rd => .thumb (put 16 0b011#3 13 ||| put 16 2#2 11 ||| put 16 off 6 ||| put 16 rb 3 ||| put 16 rd 0)
  | .tLdrbImm off rb rd => .thumb (put 16 0b011#3 13 ||| put 16 3#2 11 ||| put 16 off 6 ||| put 16 rb 3 ||| put 16 rd 0)
  | .tStrhImm off rb rd => .thumb (put 16 0b1000#4 12 ||| put 16 0#1 11 ||| put 16 off 6 ||| put 16 rb 3 ||| put 16 rd 0)
  | .tLdrhImm off rb rd => .thumb (put 16 0b1000#4 12 ||| put 16 1#1 11 ||| put 16 off 6 ||| put 16 rb 3 ||| put 16 rd 0)
  | .tStrSp rd word8 => .thumb (put 16 0b1001#4 12 ||| put 16 0#1 11 ||| put 16 rd 8 ||| put 16 word8 0)
  | .tLdrSp rd word8 => .thumb (put 16 0b1001#4 12 ||| put 16 1#1 11 ||| put 16 rd 8 ||| put 16 word8 0)
  | .tAddPc rd word8 => .thumb (put 16 0b1010#4 12 ||| put 16 0#1 11 ||| put 16 rd 8 ||| put 16 word8 0)
  | .tAddSp rd word8 => .thumb (put 16 0b1010#4 12 ||| put 16 1#1 11 ||| put 16 rd 8 ||| put 16 word8 0)
  | .tAddSpImm sword7 => .thumb (put 16 0b10110000#8 8 ||| put 16 0#1 7 ||| put 16 sword7 0)
  | .tSubSpImm sword7 => .thumb (put 16 0b10110000#8 8 ||| put 16 1#1 7 ||| put 16 sword7 0)
  | .tPush R l => .thumb (put 16 0b1011#4 12 ||| put 16 0#1 11 ||| put 16 0b10#2 9 ||| put 16 (BitVec.ofBool R) 8 ||| put 16 l 0)
  | .tPop R l => .thumb (put 16 0b1011#4 12 ||| put 16 1#1 11 ||| put 16 0b10#2 9 ||| put 16 (BitVec.ofBool R) 8 ||| put 16 l 0)
  | .tUndefU1a x1 => .thumb (put 16 0b10110001#8 8 ||| put 16 x1 0)
  | .tUndefU1b x1 => .thumb (put 16 0b1011001#7 9 ||| put 16 x1 0)
  | .tUndefU1c x1 => .thumb (put 16 0b1011011#7 9 ||| put 16 x1 0)
  | .tUndefU1d x1 => .thumb (put 16 0b101110#6 10 ||| put 16 x1 0)
  | .tUndefU1e x1 => .thumb (put 16 0b1011111#7 9 ||| put 16 x1 0)
  | .tStmia rb l => .thumb (put 16 0b1100#4 12 ||| put 16 0#1 11 ||| put 16 rb 8 ||| put 16 l 0)
  | .tLdmia rb l => .thumb (put 16 0b1100#4 12 ||| put 16 1#1 11 ||| put 16 rb 8 ||| put 16 l 0)
  | .tBEq off => .thumb (put 16 0b1101#4 12 ||| put 16 0#4 8 ||| put 16 off 0)
  | .tBNe off => .thumb (put 16 0b1101#4 12 ||| put 16 1#4 8 ||| put 16 off 0)
  | .tBCs off => .thumb (put 16 0b1101#4 12 ||| put 16 2#4 8 ||| put 16 off 0)
  | .tBCc off => .thumb (put 16 0b1101#4 12 ||| put 16 3#4 8 ||| put 16 off 0)
  | .tBMi off => .thumb (put 16 0b1101#4 12 ||| put 16 4#4 8 ||| put 16 off 0)
  | .tBPl off => .thumb (put 16 0b1101#4 12 ||| put 16 5#4 8 ||| put 16 off 0)
  | .tBVs off => .thumb (put 16 0b1101#4 12 ||| put 16 6#4 8 ||| put 16 off 0)
  | .tBVc off => .thumb (put 16 0b1101#4 12 ||| put 16 7#4 8 ||| put 16 off 0)
  | .tBHi off => .thumb (put 16 0b1101#4 12 ||| put 16 8#4 8 ||| put 16 off 0)
  | .tBLs off => .thumb (put 16 0b1101#4 12 ||| put 16 9#4 8 ||| put 16 off 0)
  | .tBGe off => .thumb (put 16 0b1101#4 12 ||| put 16 10#4 8 ||| put 16 off 0)
  | .tBLt off => .thumb (put 16 0b1101#4 12 ||| put 16 11#4 8 ||| put 16 off 0)
  | .tBGt off => .thumb (put 16 0b1101#4 12 ||| put 16 12#4 8 ||| put 16 off 0)
  | .tBLe off => .thumb (put 16 0b1101#4 12 ||| put 16 13#4 8 ||| put 16 off 0)
  | .tUndefU2 x1 => .thumb (put 16 0b11011110#8 8 ||| put 16 x1 0)
  | .tSwi value => .thumb (put 16 0b11011111#8 8 ||| put 16 value 0)
  | .tB off => .thumb (put 16 0b11100#5 11 ||| put 16 off 0)
  | .tUndefU3 x1 => .thumb (put 16 0b11101#5 11 ||| put 16 x1 0)
  | .tBlPrefix off => .thumb (put 16 0b11110#5 11 ||| put 16 off 0)
  | .tBlSuffix off => .thumb (put 16 0b11111#5 11 ||| put 16 off 0)

/-- The instruction of a code word. -/
def decodeCode : Code → Instr
  | .arm w => decodeArm w
  | .thumb w => decodeThumb w

/-! ## Bytes -/

/-- Why bytes are no instruction: there are too few of them. Every word of the right length decodes (R146, R167). -/
inductive DecodeError
  | tooShort
  deriving DecidableEq, Repr

/-- The bytes of a code word at ascending addresses: little-endian (R106, R140). -/
def Code.bytes : Code → List Byte
  | .arm w => [w.extractLsb' 0 8, w.extractLsb' 8 8, w.extractLsb' 16 8, w.extractLsb' 24 8]
  | .thumb w => [w.extractLsb' 0 8, w.extractLsb' 8 8]

/-- The instruction at the front of a list of bytes, and the bytes after it. The length is known from the instruction
set alone (R140). -/
def decode : Isa → List Byte → Except DecodeError (Instr × List Byte)
  | .arm, b0 :: b1 :: b2 :: b3 :: rest => .ok (decodeArm (b3 ++ b2 ++ b1 ++ b0), rest)
  | .arm, _ => .error .tooShort
  | .thumb, b0 :: b1 :: rest => .ok (decodeThumb (b1 ++ b0), rest)
  | .thumb, _ => .error .tooShort

/-- The instruction the decoder reads from a row of the opcode table: 32 bits are an ARM word, 16 a THUMB halfword
(R178), laid out as the hardware stores it. -/
def decodeTableWord (nbits w : Nat) : Option Instr :=
  match nbits with
  | 32 =>
    match decode .arm (Code.arm (BitVec.ofNat 32 w)).bytes with
    | .ok (i, _) => some i
    | .error _ => none
  | 16 =>
    match decode .thumb (Code.thumb (BitVec.ofNat 16 w)).bytes with
    | .ok (i, _) => some i
    | .error _ => none
  | _ => none

end Sys2Proof
end

