-- ==== Sys2Proof/Config.lean ====
section
/-! DEFINITION. What one implementation fixes: the named parameters of R11. A parameter whose value the spec
decides is a definition with that value; one the spec leaves OPEN is a constant with no body. -/

namespace Sys2Proof

/-- Who makes a bus access (R71): the CPU, or one DMA channel. -/
inductive Agent
  | cpu
  | dma (n : Fin 4)
  deriving DecidableEq, Repr

/-- What a bus access is, for the bus-timing collaborator (R11, R126): a read, a write or an instruction fetch. R11 names
read and write only, and no rule says which of them a fetch is, so a fetch has a kind of its own. DESIGN CHOICE, log
entry 34. -/
inductive AccessKind
  | fetch
  | read
  | write
  deriving DecidableEq, Repr

/-- `UNPRED_POLICY` (R11, R12): every case the architecture calls unpredictable either has the fixed behaviour its
rule states, or stops the model. -/
inductive UnpredPolicy
  | fixed
  | strict
  deriving DecidableEq, Repr

/-- `UNPRED_POLICY`, decided default `Fixed` (R11, D1). -/
def Config.unpredPolicy : UnpredPolicy := .fixed

/-- `HALT_WAKE_NEEDS_IME`, decided default `false` (R11, D28). -/
def Config.haltWakeNeedsIme : Bool := false

/-- `BUBBLE_STEPS`, fixed at 2 (R11, D5). -/
abbrev Config.bubbleSteps : Fin 3 := 2

/-- `SKIP_BOOT` (R11): which of the two reset states `State.reset` is. The spec makes it an input of construction;
the model names the power-on form. DESIGN CHOICE, log entry 1. -/
def Config.skipBoot : Bool := false

/-- `SPSR_NONE_VALUE`, OPEN (R11, R49, D14): what MRS reads as SPSR in User and System mode. Log entry 2. -/
opaque Config.spsrNoneValue : Word

/-- `busCost(agent, address, width, kind, sequential)` in clocks, OPEN (R11, R126, D53). Log entries 3 and
34. -/
opaque Config.busCost : Agent → Word → Width → AccessKind → Bool → Nat

/-- The free draws of an unpredictable flag under `Strict` (R12): one bit for each draw. Log entry 4. -/
opaque Config.freeBit : Nat → Bool

/-- What a byte of the memory collaborator that nothing has written reads as. The spec leaves the contents to `Mem`
(R100); the model takes the convention of 95_test_vectors.md section 1. DESIGN CHOICE, log entry 5. -/
def Config.unlistedByte : Byte := 0

end Sys2Proof
end

