-- ==== Sys2Proof/Machine/State.lean ====
section
/-! DEFINITION. The whole state of the machine as plain data (10_state.md), why a step can stop, and the two reset
states (R68, R69). The memory collaborator's contents, the external inputs not yet delivered and the output events
are kept here too (R70, R657, R776), so that one step is a function of the state. -/

namespace Sys2Proof.Machine

/-! ## The CPU -/

/-- The seven processor modes (R43). -/
inductive Mode
  | user | fiq | irq | svc | abt | und | sys
  deriving DecidableEq, Repr

/-- The current program status register by fields (R46). Bits 27:8 read 0 and ignore writes (R47), and a mode outside
the seven codes is never stored (R47), so neither can be written down here. Log entry 8. -/
structure Cpsr where
  n : Bool
  z : Bool
  c : Bool
  v : Bool
  i : Bool
  f : Bool
  t : Bool
  mode : Mode
  deriving DecidableEq, Repr

/-- A saved program status register (R48): bits 31:28 and 7:0 as written, bits 27:8 read 0. Its mode field may hold
any value. -/
structure Spsr where
  flags : BitVec 4
  ctrl : BitVec 8
  deriving DecidableEq, Repr

/-- The five SPSRs, one for each exception mode (R48). -/
structure SpsrBank where
  fiq : Spsr
  svc : Spsr
  abt : Spsr
  irq : Spsr
  und : Spsr
  deriving DecidableEq, Repr

/-! ## The devices -/

/-- Four like things, one for each DMA channel or timer (R63, R64). -/
structure Quad (α : Type) where
  q0 : α
  q1 : α
  q2 : α
  q3 : α
  deriving DecidableEq, Repr

/-- One DMA channel (R63). -/
structure DmaChannel where
  sad : Word
  dad : Word
  cnt : Half
  ctl : Half
  srcShadow : Word
  dstShadow : Word
  /-- 14 bits used in channels 0 to 2, 16 in channel 3 (R731). -/
  cntShadow : BitVec 16
  enabledMask : BitVec 4
  pendingMask : BitVec 4
  fifoUnits : Fin 5
  deriving DecidableEq, Repr

/-- One timer (R64). -/
structure Timer where
  counter : Half
  reload : Half
  prescale : BitVec 2
  precounter : Word
  enabled : Bool
  irqOnOverflow : Bool
  cascade : Bool
  deriving DecidableEq, Repr

/-- The interrupt controller (R62): IE, IF and IME. -/
structure IrqCtl where
  ie : BitVec 14
  ifl : BitVec 14
  ime : Bool
  deriving DecidableEq, Repr

/-- The last bus access (R71). -/
structure BusAccess where
  agent : Agent
  addr : Word
  width : Width
  deriving DecidableEq, Repr

/-! ## External inputs and outputs -/

/-- The interrupt sources outside the block (R630, R657): bits 0, 1, 2, 7, 12 and 13 of IF. -/
inductive ExtIrq
  | vblank | hblank | vcount | serial | keypad | gamepak
  deriving DecidableEq, Repr

/-- The DMA trigger types that come from outside the block (R657, R740). -/
inductive ExtTrigger
  | vblank | hblank | special
  deriving DecidableEq, Repr

/-- The two channels that have a sound FIFO (R748). -/
inductive FifoChannel
  | one | two
  deriving DecidableEq, Repr

/-- One external event of the stream `Env` (R657). -/
inductive EnvEvent
  | request (source : ExtIrq)
  | dmaTrigger (channel : Fin 4) (trigger : ExtTrigger)
  | fifoRequest (channel : FifoChannel)
  | keypadWake
  deriving DecidableEq, Repr

/-- One output event of the block: a timer overflow (R776), or the end of an `advance` call (R652). -/
inductive OutEvent
  | timerOverflow (n : Fin 4)
  | flush
  deriving DecidableEq, Repr

/-! ## Why a step can stop -/

/-- The cases that 93_implementation_defined.md section 1 lists as unpredictable, each under its case id. -/
inductive UnpredCase
  | bxArmMisaligned
  | cpsrBadMode
  | dpRsPc
  | dpRegshiftRdPc
  | mrsRdPc
  | mulC
  | mullV
  | mulRegs
  | lsWbackPc
  | ldrbPc
  | lshPostW
  | ldrhPc
  | ldmStmEmpty
  | ldmBaseInList
  | stmBaseInList
  | ldmStmSWriteback
  | ldmStmSUser
  | ldmSUserNext
  | swpPc
  | tHiregLow
  | tBxH1
  | tLdmStmEmpty
  | tStmBaseInList
  | tLdmBaseInList
  deriving DecidableEq, Repr

/-- Why the machine stops with a fault. Under `Config.unpredPolicy = .fixed` no fault is ever raised: no access
faults (R100) and every exception is an ordinary next state (R600). -/
inductive Fault
  /-- `Unpredictable(<case id>)` (R12): raised by an instruction, or by `step` for LDM-S-user-next, under the policy
  `strict` only. Safe: the model stops where the hardware goes on. -/
  | unpredictable (c : UnpredCase)
  deriving DecidableEq, Repr

/-- Why the model has no meaning for an instruction. -/
inductive Refusal
  /-- The instruction is not modelled yet; raised by an arm of `exec`. Safe. -/
  | notModelled (mnemonic : String)
  deriving DecidableEq, Repr

end Sys2Proof.Machine

namespace Sys2Proof.Machine

/-! ## The state -/

/-- The state of the machine. `selector` is `cpsr.t` (R52), `irqLine` a function of `irq` (R61) and `dmaActive` is
`armed ≠ none` (R741); they are not stored twice. -/
structure State where
  /-- The physical general registers of R41: R0 to R7, R8 to R14 usr, R8 to R14 fiq, then R13 and R14 of svc, abt, irq
  and und. Log entry 7. -/
  regs : Vector Word 30
  cpsr : Cpsr
  spsr : SpsrBank
  /-- The address of the next instruction fetch (R53). -/
  pc : Word
  /-- The prefetched word to execute next; valid when `bubble = 0` (R53, R55). Log entry 9. -/
  slotExec : Word
  /-- The prefetched word after it; valid when `bubble ≤ 1` (R53, R55). -/
  slotDecode : Word
  /-- The remaining bubble steps (R53, R60). -/
  bubble : Fin 3
  /-- The most recent word fetched (R59). -/
  lastFetch : Word
  halted : Bool
  stopped : Bool
  iterationEnd : Bool
  irq : IrqCtl
  dma : Quad DmaChannel
  /-- The armed DMA channel (R63, R741). -/
  armed : Option (Fin 4)
  /-- The last value a DMA unit moved (R65). -/
  dmaBusValue : Word
  timers : Quad Timer
  /-- Clocks since reset, the target of the current `advance` call, and the overshoot of the last (R66). -/
  clock : Nat
  budgetEnd : Nat
  carry : Nat
  /-- The last bus access, for sequentiality (R71). -/
  busLast : Option BusAccess
  /-- The bytes of the memory collaborator that differ from `Config.unlistedByte`, by rising address (R100, R107). -/
  mem : List Host.Cell
  /-- The external events not yet applied, each with its time (R657). Log entry 17. -/
  env : List (Nat × EnvEvent)
  /-- The output events so far, oldest first (R652, R776). Log entry 18. -/
  out : List OutEvent
  /-- The model's own: the clocks the step in progress has cost so far (R831); 0 between steps. Log entry 19. -/
  stepClocks : Nat
  /-- The model's own: how many free bits have been drawn (R12, policy `strict` only). Log entry 4. -/
  freeCount : Nat
  /-- The model's own: the last instruction was a user-bank LDM (R343 LDM-S-user-next, policy `strict` only). Log
  entry 13. -/
  userLdm : Bool
  deriving DecidableEq, Repr

/-! ## Reset -/

/-- A CPSR with all flags clear. -/
def Cpsr.plain (i f : Bool) (mode : Mode) : Cpsr :=
  { n := false, z := false, c := false, v := false, i := i, f := f, t := false, mode := mode }

/-- An SPSR that holds 0. -/
def Spsr.zero : Spsr := { flags := 0, ctrl := 0 }

/-- Four copies of one thing. -/
def Quad.all {α : Type} (a : α) : Quad α := { q0 := a, q1 := a, q2 := a, q3 := a }

/-- A DMA channel after reset: every field 0 (R63). -/
def DmaChannel.zero : DmaChannel :=
  { sad := 0, dad := 0, cnt := 0, ctl := 0, srcShadow := 0, dstShadow := 0, cntShadow := 0, enabledMask := 0,
    pendingMask := 0, fifoUnits := 0 }

/-- A timer after reset: every field 0 (R64). -/
def Timer.zero : Timer :=
  { counter := 0, reload := 0, prescale := 0, precounter := 0, enabled := false, irqOnOverflow := false,
    cascade := false }

/-- The power-on state (R68, R801): every field 0 but CPSR = 0xD3 and `bubble` = 2, and memory with nothing listed. -/
def State.powerOn : State :=
  { regs := Vector.replicate 30 0
    cpsr := Cpsr.plain true true .svc
    spsr := { fiq := Spsr.zero, svc := Spsr.zero, abt := Spsr.zero, irq := Spsr.zero, und := Spsr.zero }
    pc := 0
    slotExec := 0
    slotDecode := 0
    bubble := Config.bubbleSteps
    lastFetch := 0
    halted := false
    stopped := false
    iterationEnd := false
    irq := { ie := 0, ifl := 0, ime := false }
    dma := Quad.all DmaChannel.zero
    armed := none
    dmaBusValue := 0
    timers := Quad.all Timer.zero
    clock := 0
    budgetEnd := 0
    carry := 0
    busLast := none
    mem := []
    env := []
    out := []
    stepClocks := 0
    freeCount := 0
    userLdm := false }

/-- The boot-complete state (R69, R801): as power-on but for CPSR = 0x1F, R13_usr, R13_svc, R13_irq and `pc`. -/
def State.bootComplete : State :=
  { State.powerOn with
    regs := (((Vector.replicate 30 0).set 13 0x03007F00).set 22 0x03007FE0).set 26 0x03007FA0
    cpsr := Cpsr.plain false false .sys
    pc := 0x08000000 }

/-- The reset state for each value of `SKIP_BOOT` (R68, R69, R801). -/
def State.resetFor (skipBoot : Bool) : State := if skipBoot then State.bootComplete else State.powerOn

/-- The machine right after reset. Which of the two forms it is, is log entry 1. -/
def State.reset : State := State.resetFor Config.skipBoot

end Sys2Proof.Machine
end

