-- ==== Sys2Proof/Machine/Flags.lean ====
section
/-! DEFINITION. Condition evaluation (R142) and every flag computation (R16, R226, R227, R291, R293). -/

namespace Sys2Proof.Machine

/-- `ConditionPassed` (R142). -/
def condPassed (c : Cond) (p : Cpsr) : Bool :=
  match c with
  | .eq => p.z
  | .ne => !p.z
  | .cs => p.c
  | .cc => !p.c
  | .mi => p.n
  | .pl => !p.n
  | .vs => p.v
  | .vc => !p.v
  | .hi => p.c && !p.z
  | .ls => !p.c || p.z
  | .ge => p.n == p.v
  | .lt => p.n != p.v
  | .gt => !p.z && (p.n == p.v)
  | .le => p.z || (p.n != p.v)
  | .al => true
  | .nv => false

/-- A result with its carry and overflow. -/
structure AddResult where
  r : Word
  c : Bool
  v : Bool
  deriving DecidableEq, Repr

/-- `AddWithCarry(a, b, c)` (R16): the exact unsigned and signed sums decide carry and overflow. -/
def addWithCarry (a b : Word) (c : Bool) : AddResult :=
  { r := a + b + BitVec.setWidth 32 (BitVec.ofBool c)
    c := decide (2 ^ 32 ≤ a.toNat + b.toNat + c.toNat)
    v := decide (a.toInt + b.toInt + c.toNat < -2 ^ 31 ∨ 2 ^ 31 - 1 < a.toInt + b.toInt + c.toNat) }

/-- N and Z of a 32-bit result (R226, R227). -/
def Cpsr.setNZ (p : Cpsr) (r : Word) : Cpsr := { p with n := r.msb, z := r == 0 }

/-- The logical flag rule (R226): V unchanged. -/
def Cpsr.logic (p : Cpsr) (r : Word) (sc : Bool) : Cpsr := { p.setNZ r with c := sc }

/-- The arithmetic flag rule (R227). -/
def Cpsr.arith (p : Cpsr) (x : AddResult) : Cpsr := { p.setNZ x.r with c := x.c, v := x.v }

/-- N and Z of a 64-bit product (R293). -/
def Cpsr.setNZ64 (p : Cpsr) (x : BitVec 64) : Cpsr := { p with n := x.msb, z := x == 0 }

end Sys2Proof.Machine
end

