-- ==== Sys2Proof/Machine/Operands.lean ====
section
/-! DEFINITION. The shifter (R221, R222, R223) and the offsets of the load and store forms (R162, R168). -/

namespace Sys2Proof.Machine

/-- A shifter operand and its carry-out (R220). -/
structure Shifted where
  op2 : Word
  sc : Bool
  deriving DecidableEq, Repr

/-- 32 copies of bit 31. -/
def signFill (m : Word) : Word := if m.msb then 0xFFFFFFFF else 0

/-- The rotated immediate (R221, R160). -/
def rotImm (rot : BitVec 4) (imm : BitVec 8) (cin : Bool) : Shifted :=
  let op2 := (imm.setWidth 32).rotateRight (2 * rot.toNat)
  { op2 := op2, sc := if rot = 0 then cin else op2.msb }

/-- A register shifted by an immediate amount (R222). Amount 0 means LSR #32, ASR #32 and RRX. -/
def shiftImm (t : Shift) (n : BitVec 5) (m : Word) (cin : Bool) : Shifted :=
  let k := n.toNat
  match t with
  | .lsl => if k = 0 then ⟨m, cin⟩ else ⟨m <<< k, m.getLsbD (32 - k)⟩
  | .lsr => if k = 0 then ⟨0, m.msb⟩ else ⟨m >>> k, m.getLsbD (k - 1)⟩
  | .asr => if k = 0 then ⟨signFill m, m.msb⟩ else ⟨m.sshiftRight k, m.getLsbD (k - 1)⟩
  | .ror =>
    if k = 0 then ⟨(m >>> 1) ||| (BitVec.setWidth 32 (BitVec.ofBool cin) <<< 31), m.getLsbD 0⟩
    else ⟨m.rotateRight k, m.getLsbD (k - 1)⟩

/-- A register shifted by the low byte of a register (R223). -/
def shiftReg (t : Shift) (s : Byte) (m : Word) (cin : Bool) : Shifted :=
  let k := s.toNat
  if k = 0 then ⟨m, cin⟩
  else
    match t with
    | .lsl =>
      if k < 32 then ⟨m <<< k, m.getLsbD (32 - k)⟩
      else if k = 32 then ⟨0, m.getLsbD 0⟩ else ⟨0, false⟩
    | .lsr =>
      if k < 32 then ⟨m >>> k, m.getLsbD (k - 1)⟩
      else if k = 32 then ⟨0, m.msb⟩ else ⟨0, false⟩
    | .asr => if k < 32 then ⟨m.sshiftRight k, m.getLsbD (k - 1)⟩ else ⟨signFill m, m.msb⟩
    | .ror => if k % 32 = 0 then ⟨m, m.msb⟩ else ⟨m.rotateRight (k % 32), m.getLsbD (k % 32 - 1)⟩

/-- Base plus or minus offset (R320). -/
def addOffset (u : Bool) (base off : Word) : Word := if u then base + off else base - off

/-- The address of a word access (R108). -/
def alignWord (a : Word) : Word := a &&& 0xFFFFFFFC

/-- The address of a halfword access (R109). -/
def alignHalf (a : Word) : Word := a &&& 0xFFFFFFFE

/-- The high or low register that a THUMB format 5 field names (R429). -/
def hiReg (h : Bool) (r : LowReg) : RegNo := BitVec.ofBool h ++ r

/-- A THUMB low register as a register number (R166). -/
def lowReg (r : LowReg) : RegNo := r.setWidth 4

/-- The registers of a list, ascending (R340). -/
def regList (l : BitVec 16) : List RegNo :=
  ((List.range 16).filter fun i => l.getLsbD i).map fun i => BitVec.ofNat 4 i

end Sys2Proof.Machine
end

