-- ==== Sys2Proof/Machine/Ops.lean ====
section
/-! DEFINITION. The operations every instruction is written over: register banks (R42, R44), branching (R55), the
status words (R46..R49), exception entry (R604) and return (R615), and the policy for unpredictable cases (R12). -/

namespace Sys2Proof.Machine

/-- What an instruction or a step answers. -/
abbrev Result := Host.Outcome State Fault Refusal

/-! ## Registers -/

/-- The physical register that a live name denotes in a mode (R42); `none` for R15, which is the program counter. -/
def phys (m : Mode) (r : RegNo) : Option (Fin 30) :=
  if r = 15#4 then none
  else if r < 8#4 then some (Fin.ofNat 30 r.toNat)
  else if r < 13#4 then
    (match m with
     | .fiq => some (Fin.ofNat 30 (r.toNat + 7))
     | _ => some (Fin.ofNat 30 r.toNat))
  else
    (match m with
     | .user => some (Fin.ofNat 30 r.toNat)
     | .sys => some (Fin.ofNat 30 r.toNat)
     | .fiq => some (Fin.ofNat 30 (r.toNat + 7))
     | .svc => some (Fin.ofNat 30 (r.toNat + 9))
     | .abt => some (Fin.ofNat 30 (r.toNat + 11))
     | .irq => some (Fin.ofNat 30 (r.toNat + 13))
     | .und => some (Fin.ofNat 30 (r.toNat + 15)))

/-- Register `r` as mode `m` names it; R15 reads `pc` (R17, R53). -/
def State.regIn (s : State) (m : Mode) (r : RegNo) : Word :=
  match phys m r with
  | some p => s.regs[p]
  | none => s.pc

/-- `x[i]` (R17, R44): the live register of the current mode. While the instruction at A executes, `pc` = A + 2w, so
R15 reads A + 8 or A + 4. -/
def State.reg (s : State) (r : RegNo) : Word := s.regIn s.cpsr.mode r

/-- `xu[i]` (R17): the User-mode register, whatever the mode. -/
def State.userReg (s : State) (r : RegNo) : Word := s.regIn .user r

/-- The width of an instruction in the current state (R24). -/
def State.w (s : State) : Word := if s.cpsr.t then 2 else 4

/-- A branch target aligned for an instruction set (R55): `t` is CPSR.T. -/
def alignTarget (t : Bool) (a : Word) : Word := if t then a &&& 0xFFFFFFFE else a &&& 0xFFFFFFFC

/-- `BranchWritePC` (R55): the target is aligned for the current instruction set and a bubble starts, so the two
prefetched words are invalid. `busLast` stays: whether the first fetch at the target is sequential is R71's formula, also
for a target right after the last CPU access (R830). DEDUCED, log entry 33. -/
def State.branch (s : State) (target : Word) : State :=
  { s with pc := alignTarget s.cpsr.t target, bubble := Config.bubbleSteps }

/-- Write register `r` as mode `m` names it; a write of R15 is a branch (R17, R18). -/
def State.setRegIn (s : State) (m : Mode) (r : RegNo) (v : Word) : State :=
  match phys m r with
  | some p => { s with regs := s.regs.set p v }
  | none => s.branch v

/-- `x[i] <- v` (R17, R44). -/
def State.setReg (s : State) (r : RegNo) (v : Word) : State := s.setRegIn s.cpsr.mode r v

/-- `xu[i] <- v` (R17). -/
def State.setUserReg (s : State) (r : RegNo) (v : Word) : State := s.setRegIn .user r v

/-- R15 one instruction width further: A + 12 in ARM state, A + 6 in THUMB state (R53, R321, R484). -/
def State.pcPlus (s : State) : Word := s.pc + s.w

/-- An operand of the register-shift form: R15 reads A + 12 (R224). -/
def State.regShiftOperand (s : State) (r : RegNo) : Word := if r = 15#4 then s.pcPlus else s.reg r

/-- The value a store of `r` stores: R15 stores A + 12 (R321). -/
def State.storeValue (s : State) (r : RegNo) : Word := if r = 15#4 then s.pcPlus else s.reg r

/-- The address of the next instruction: A + 4 in ARM state, A + 2 in THUMB state. -/
def State.nextAddr (s : State) : Word := s.pc - s.w

/-- Charge internal cycles to the step in progress (R831, R832). -/
def State.internal (s : State) (k : Nat) : State := { s with stepClocks := s.stepClocks + k }

/-! ## Modes and status words -/

/-- The code of a mode in CPSR.M (R43). -/
def Mode.code : Mode → BitVec 5
  | .user => 0b10000#5
  | .fiq => 0b10001#5
  | .irq => 0b10010#5
  | .svc => 0b10011#5
  | .abt => 0b10111#5
  | .und => 0b11011#5
  | .sys => 0b11111#5

/-- The mode of a code; the other 25 codes are no mode (R43). -/
def Mode.ofCode (b : BitVec 5) : Option Mode :=
  if b = 0b10000#5 then some .user
  else if b = 0b10001#5 then some .fiq
  else if b = 0b10010#5 then some .irq
  else if b = 0b10011#5 then some .svc
  else if b = 0b10111#5 then some .abt
  else if b = 0b11011#5 then some .und
  else if b = 0b11111#5 then some .sys
  else none

/-- Every mode but User is privileged (R620, R621). -/
def Mode.privileged (m : Mode) : Bool := m != .user

/-- The control bits 7:0 of CPSR (R46). -/
def Cpsr.ctrl (p : Cpsr) : BitVec 8 := BitVec.ofBool p.i ++ BitVec.ofBool p.f ++ BitVec.ofBool p.t ++ p.mode.code

/-- The flag bits 31:28 of CPSR (R46). -/
def Cpsr.flags (p : Cpsr) : BitVec 4 := BitVec.ofBool p.n ++ BitVec.ofBool p.z ++ BitVec.ofBool p.c ++ BitVec.ofBool p.v

/-- CPSR as an SPSR saves it (R603). -/
def Cpsr.saved (p : Cpsr) : Spsr := { flags := p.flags, ctrl := p.ctrl }

/-- A status word as a register reads it: bits 27:8 are 0 (R47, R48). -/
def Spsr.toWord (p : Spsr) : Word := p.flags ++ (0 : BitVec 20) ++ p.ctrl

/-- CPSR as MRS reads it (R46, R280). -/
def Cpsr.toWord (p : Cpsr) : Word := p.saved.toWord

/-- `CPSR <- SPSR` (R615): every field, but a mode field that is no mode leaves M unchanged (R47). -/
def Cpsr.restore (old : Cpsr) (p : Spsr) : Cpsr :=
  { n := p.flags.getLsbD 3
    z := p.flags.getLsbD 2
    c := p.flags.getLsbD 1
    v := p.flags.getLsbD 0
    i := p.ctrl.getLsbD 7
    f := p.ctrl.getLsbD 6
    t := p.ctrl.getLsbD 5
    mode := (Mode.ofCode (p.ctrl.extractLsb' 0 5)).getD old.mode }

/-- The SPSR of a mode; User and System have none (R48, R49). -/
def SpsrBank.get? (b : SpsrBank) : Mode → Option Spsr
  | .fiq => some b.fiq
  | .svc => some b.svc
  | .abt => some b.abt
  | .irq => some b.irq
  | .und => some b.und
  | .user => none
  | .sys => none

/-- Write the SPSR of a mode; no effect in User and System (R49). -/
def SpsrBank.set (b : SpsrBank) (m : Mode) (p : Spsr) : SpsrBank :=
  match m with
  | .fiq => { b with fiq := p }
  | .svc => { b with svc := p }
  | .abt => { b with abt := p }
  | .irq => { b with irq := p }
  | .und => { b with und := p }
  | .user => b
  | .sys => b

/-- `SPSR`: that of the current mode (R21, R48). -/
def State.spsr? (s : State) : Option Spsr := s.spsr.get? s.cpsr.mode

/-- The exception return of R615, before the write of R15: User and System leave CPSR unchanged (R49, R616). The
register bank changes with the mode because registers are read through `phys` (R44, R45). -/
def State.restoreCpsr (s : State) : State :=
  match s.spsr? with
  | some p => { s with cpsr := s.cpsr.restore p }
  | none => s

/-- The exception return would write a mode field that is no mode: CPSR-bad-mode (R47). -/
def State.badRestore (s : State) : Bool :=
  match s.spsr? with
  | some p => (Mode.ofCode (p.ctrl.extractLsb' 0 5)).isNone
  | none => false

/-- The fields of CPSR that an MSR writes (R281): flags in any mode, I, F and M in a privileged mode, never T. -/
def Cpsr.msr (p : Cpsr) (f : BitVec 4) (op : Word) : Cpsr :=
  let p1 := if f.getLsbD 3 then { p with n := op.getLsbD 31, z := op.getLsbD 30, c := op.getLsbD 29, v := op.getLsbD 28 } else p
  if f.getLsbD 0 && p.mode.privileged then
    { p1 with i := op.getLsbD 7, f := op.getLsbD 6, mode := (Mode.ofCode (op.extractLsb' 0 5)).getD p.mode }
  else p1

/-- The fields of an SPSR that an MSR writes (R281). -/
def Spsr.msr (p : Spsr) (f : BitVec 4) (op : Word) : Spsr :=
  { flags := if f.getLsbD 3 then op.extractLsb' 28 4 else p.flags
    ctrl := if f.getLsbD 0 then op.extractLsb' 0 8 else p.ctrl }

/-! ## Exceptions -/

/-- The exceptions of the architecture that are entered by `enterException` (R600); Reset is `State.resetFor`. Prefetch
abort, data abort and FIQ are never raised here (R609). -/
inductive Exc
  | undefined | swi | prefetchAbort | dataAbort | irq | fiq
  deriving DecidableEq, Repr

/-- The vector of an exception, which is its code (R601, R602). -/
def Exc.vector : Exc → Word
  | .undefined => 0x04
  | .swi => 0x08
  | .prefetchAbort => 0x0C
  | .dataAbort => 0x10
  | .irq => 0x18
  | .fiq => 0x1C

/-- The mode an exception enters (R602). -/
def Exc.mode : Exc → Mode
  | .undefined => .und
  | .swi => .svc
  | .prefetchAbort => .abt
  | .dataAbort => .abt
  | .irq => .irq
  | .fiq => .fiq

/-- `EnterException` (R604): SPSR of the new mode, mode and bank, R14 of the new mode, T, I, F for FIQ only, the
vector. Every entry makes the next bus access non-sequential (R71). -/
def State.enterException (s : State) (e : Exc) (lr : Word) : State :=
  let s1 : State :=
    { s with
      spsr := s.spsr.set e.mode s.cpsr.saved
      cpsr := { s.cpsr with mode := e.mode, t := false, i := true, f := s.cpsr.f || (e == .fiq) }
      busLast := none }
  (s1.setReg 14#4 lr).branch e.vector

/-- `raise SWI` (R20, R606): the link is the address of the next instruction. -/
def State.raiseSwi (s : State) : State := s.enterException .swi s.nextAddr

/-- `raise Undefined` (R20, R605): one internal cycle (R832). -/
def State.raiseUndefined (s : State) : State := (s.internal 1).enterException .undefined s.nextAddr

/-! ## Unpredictable cases -/

/-- `UNPRED_POLICY` (R12): under `fixed` the behaviour is the one stated; under `strict` the first listed case that
holds stops the model. -/
def unpredUnder (policy : UnpredPolicy) (cases : List (UnpredCase × Bool)) (t : State) : Result :=
  match policy with
  | .fixed => .next t
  | .strict =>
    (match cases.find? (fun p => p.2) with
     | some p => .fault (.unpredictable p.1)
     | none => .next t)

/-- The policy of this configuration (R11, R12). -/
def unpredIf (cases : List (UnpredCase × Bool)) (t : State) : Result := unpredUnder Config.unpredPolicy cases t

/-- A flag whose value is unpredictable (R12, R290): unchanged under `fixed`, a free bit under `strict`. Log entry 4. -/
def openFlagUnder (policy : UnpredPolicy) (draws : Nat) (old : Bool) : Bool :=
  match policy with
  | .fixed => old
  | .strict => Config.freeBit draws

/-- How many free bits a flag draw uses (R12). -/
def drawsUnder (policy : UnpredPolicy) : Nat :=
  match policy with
  | .fixed => 0
  | .strict => 1

/-- C after a flag-setting multiply: MUL-C (R290). -/
def State.openC (s : State) : State :=
  { s with
    cpsr := { s.cpsr with c := openFlagUnder Config.unpredPolicy s.freeCount s.cpsr.c }
    freeCount := s.freeCount + drawsUnder Config.unpredPolicy }

/-- V after a flag-setting long multiply: MULL-V (R290). -/
def State.openV (s : State) : State :=
  { s with
    cpsr := { s.cpsr with v := openFlagUnder Config.unpredPolicy s.freeCount s.cpsr.v }
    freeCount := s.freeCount + drawsUnder Config.unpredPolicy }

/-! ## Conditional execution -/

/-- An ARM instruction (R23, R143): a failed condition makes it a no-op. `cases` are its unpredictable cases, `f` what
it does. -/
def runArm (c : Cond) (s : State) (cases : List (UnpredCase × Bool)) (t : State) : Result :=
  if condPassed c s.cpsr then unpredIf cases t else .next s

end Sys2Proof.Machine
end

