-- ==== Sys2Proof/Machine/Devices.lean ====
section
/-! DEFINITION. The interrupt controller (R630..R636), the DMA registers and arbitration (R711..R748), and the timer
chain (R761..R776), without the bus. -/

namespace Sys2Proof.Machine

/-! ## Four like things -/

/-- The thing numbered `n`. -/
def Quad.get {α : Type} (q : Quad α) (n : Fin 4) : α :=
  match n with
  | 0 => q.q0
  | 1 => q.q1
  | 2 => q.q2
  | 3 => q.q3

/-- Replace the thing numbered `n`. -/
def Quad.set {α : Type} (q : Quad α) (n : Fin 4) (a : α) : Quad α :=
  match n with
  | 0 => { q with q0 := a }
  | 1 => { q with q1 := a }
  | 2 => { q with q2 := a }
  | 3 => { q with q3 := a }

/-! ## Interrupt controller -/

/-- The sources that are enabled and requested (R61, R654). -/
def IrqCtl.pending (q : IrqCtl) : BitVec 14 := q.ie &&& q.ifl

/-- `irqLine` (R61). -/
def State.irqLine (s : State) : Bool := (s.irq.pending != 0) && s.irq.ime

/-- `requestLine` (R631): a request is latched whatever IE holds. -/
def State.requestLine (s : State) (mask : BitVec 14) : State :=
  { s with irq := { s.irq with ifl := s.irq.ifl ||| mask } }

/-- `acknowledge` (R633): a written 1 clears its request. -/
def State.acknowledge (s : State) (mask : BitVec 14) : State :=
  { s with irq := { s.irq with ifl := s.irq.ifl &&& ~~~mask } }

/-- `writeEnable` (R634). -/
def State.writeEnable (s : State) (mask : BitVec 14) : State := { s with irq := { s.irq with ie := mask } }

/-- `writeMasterEnable` (R634). -/
def State.writeMasterEnable (s : State) (flag : Bool) : State := { s with irq := { s.irq with ime := flag } }

/-- The request bit of a timer overflow (R630, R775). -/
def timerIrqBit (n : Fin 4) : BitVec 14 := 1#14 <<< (3 + n.val)

/-- The request bit of a DMA completion (R630, R747). -/
def dmaIrqBit (n : Fin 4) : BitVec 14 := 1#14 <<< (8 + n.val)

/-- The bit of an external source (R630). -/
def ExtIrq.bit : ExtIrq → Nat
  | .vblank => 0
  | .hblank => 1
  | .vcount => 2
  | .serial => 7
  | .keypad => 12
  | .gamepak => 13

/-- `HaltWake` for a value of `HALT_WAKE_NEEDS_IME` (R654). -/
def haltWakeUnder (needsIme : Bool) (q : IrqCtl) : Bool := (q.pending != 0) && (q.ime || !needsIme)

/-- `HaltWake` (R654). -/
def State.haltWake (s : State) : Bool := haltWakeUnder Config.haltWakeNeedsIme s.irq

/-- The halt operation (R653): no effect when the wake condition already holds. -/
def State.haltOp (s : State) : State := if s.haltWake then s else { s with halted := true }

/-- The stop operation (R655). -/
def State.stopOp (s : State) : State := { s with stopped := true }

/-! ## DMA registers and arbitration -/

/-- `srcMask` (R730). -/
def dmaSrcMask (n : Fin 4) : Word := if n = 0 then 0x07FFFFFF else 0x0FFFFFFF

/-- `dstMask` (R730). -/
def dmaDstMask (n : Fin 4) : Word := if n = 3 then 0x0FFFFFFF else 0x07FFFFFF

/-- `cntMask` (R731). -/
def dmaCntMask (n : Fin 4) : Half := if n = 3 then 0xFFFF else 0x3FFF

/-- `TypeBit` (R740): the trigger types immediate, VBlank, HBlank and special are 0 to 3; channel 0 has no special. -/
def dmaTypeBit (n : Fin 4) (t : BitVec 2) : BitVec 4 := if n = 0 && t == 3#2 then 0 else 1#4 <<< t.toNat

/-- The start timing of a control word (R712). -/
def ctlTiming (c : Half) : BitVec 2 := c.extractLsb' 12 2

/-- The destination control of a control word (R712). -/
def ctlDst (c : Half) : BitVec 2 := c.extractLsb' 5 2

/-- The source control of a control word (R712). -/
def ctlSrc (c : Half) : BitVec 2 := c.extractLsb' 7 2

/-- A channel has a trigger pending that it enables (R741). -/
def DmaChannel.ready (c : DmaChannel) : Bool := c.enabledMask &&& c.pendingMask != 0

/-- The lowest-numbered ready channel (R741, R743). -/
def dmaWinner (q : Quad DmaChannel) : Option (Fin 4) :=
  if q.q0.ready then some 0
  else if q.q1.ready then some 1
  else if q.q2.ready then some 2
  else if q.q3.ready then some 3
  else none

/-- `Arbitrate` (R741): a change to another channel makes its next access non-sequential. -/
def State.arbitrate (s : State) : State :=
  let w := dmaWinner s.dma
  { s with
    busLast := if w ≠ s.armed ∧ w ≠ none then none else s.busLast
    armed := w }

/-- Replace one channel. -/
def State.setDma (s : State) (n : Fin 4) (c : DmaChannel) : State := { s with dma := s.dma.set n c }

/-- Channels 1 and 2, the ones with a sound FIFO (R748). -/
def fifoChannel (n : Fin 4) : Bool := n == 1 || n == 2

/-- What a trigger does to its channel (R742): lost unless its type is enabled; a new special trigger of channel 1 or 2
starts a FIFO block of 4 units. -/
def DmaChannel.trigger (c : DmaChannel) (n : Fin 4) (t : BitVec 2) : DmaChannel :=
  let b := dmaTypeBit n t
  if c.enabledMask &&& b = 0 then c
  else
    { c with
      pendingMask := c.pendingMask ||| b
      fifoUnits := if c.pendingMask &&& b = 0 && t == 3#2 && fifoChannel n then 4 else c.fifoUnits }

/-- `requestTrigger` (R742). -/
def State.requestTrigger (s : State) (n : Fin 4) (t : BitVec 2) : State :=
  (s.setDma n ((s.dma.get n).trigger n t)).arbitrate

/-- What a write of CNT_H does to its channel (R714): the enable edge latches the shadows. -/
def DmaChannel.writeCtl (c : DmaChannel) (n : Fin 4) (new : Half) : DmaChannel :=
  let c1 := { c with ctl := new &&& 0xFFE0 }
  let b := dmaTypeBit n (ctlTiming new)
  if new.getLsbD 15 then
    (if c.ctl.getLsbD 15 then { c1 with enabledMask := b, pendingMask := c.pendingMask &&& b }
     else
      { c1 with
        srcShadow := c.sad &&& dmaSrcMask n
        dstShadow := c.dad &&& dmaDstMask n
        cntShadow := c.cnt &&& dmaCntMask n
        pendingMask := 0
        enabledMask := b })
  else { c1 with enabledMask := 0, pendingMask := 0 }

/-- The write action of DMAnCNT_H (R714): an enable edge with immediate timing is its own trigger. -/
def State.writeDmaCtl (s : State) (n : Fin 4) (new : Half) : State :=
  let s1 := s.setDma n ((s.dma.get n).writeCtl n new)
  if new.getLsbD 15 && !(s.dma.get n).ctl.getLsbD 15 && ctlTiming new == 0#2 then s1.requestTrigger n 0#2
  else s1.arbitrate

/-- One address after a unit (R746): code 1 decrements, code 2 is fixed, codes 0 and 3 increment. -/
def dmaMove (code : BitVec 2) (a size : Word) : Word :=
  if code = 1#2 then a - size else if code = 2#2 then a else a + size

/-- `Advance` (R746), each address masked again (R730); in FIFO mode the destination does not move. -/
def DmaChannel.advance (c : DmaChannel) (n : Fin 4) (size : Word) (fifo : Bool) : DmaChannel :=
  { c with
    srcShadow := dmaMove (ctlSrc c.ctl) c.srcShadow size &&& dmaSrcMask n
    dstShadow := (if fifo then c.dstShadow else dmaMove (ctlDst c.ctl) c.dstShadow size) &&& dmaDstMask n }

/-- The channel at the end of a transfer (R747): the trigger served is no longer pending; a repeating channel that is
not immediate reloads, the others are disabled. -/
def DmaChannel.finish (c : DmaChannel) (n : Fin 4) (fifo : Bool) : DmaChannel :=
  let t := ctlTiming c.ctl
  if c.ctl.getLsbD 9 && t != 0#2 then
    { c with
      pendingMask := c.pendingMask &&& ~~~dmaTypeBit n t
      cntShadow := if fifo then c.cntShadow else c.cnt &&& dmaCntMask n
      dstShadow := if !fifo && ctlDst c.ctl == 3#2 then c.dad &&& dmaDstMask n else c.dstShadow }
  else { c with ctl := c.ctl &&& 0x7FFF, enabledMask := 0, pendingMask := 0 }

/-- `Finalize` (R747). -/
def State.finalizeDma (s : State) (n : Fin 4) (fifo : Bool) : State :=
  let c := s.dma.get n
  let s1 := if c.ctl.getLsbD 14 then s.requestLine (dmaIrqBit n) else s
  (s1.setDma n (c.finish n fifo)).arbitrate

/-- The count of a channel after a unit, and whether the transfer is done (R745). -/
def DmaChannel.countDown (c : DmaChannel) (n : Fin 4) (fifo : Bool) : DmaChannel × Bool :=
  if fifo then
    let u := c.fifoUnits.val - 1
    ({ c with fifoUnits := Fin.ofNat 5 u }, u == 0)
  else
    let k := (c.cntShadow - 1) &&& dmaCntMask n
    ({ c with cntShadow := k }, k == 0)

/-! ## Timers -/

/-- Replace one timer. -/
def State.setTimer (s : State) (n : Fin 4) (t : Timer) : State := { s with timers := s.timers.set n t }

/-- The prescaler shift (R762). -/
def prescaleShift (p : BitVec 2) : Nat :=
  if p = 0#2 then 0 else if p = 1#2 then 6 else if p = 2#2 then 8 else 10

/-- `Overflow` without the cascade (R772): the interrupt request and the output event. -/
def State.overflowEffects (s : State) (n : Fin 4) : State :=
  let s1 := if (s.timers.get n).irqOnOverflow then s.requestLine (timerIrqBit n) else s
  { s1 with out := s1.out ++ [.timerOverflow n] }

/-- `Tick` (R771), with what the overflow does to the next timer. -/
def tickWith (next : State → State) (n : Fin 4) (s : State) : State :=
  let t := s.timers.get n
  if t.counter = 0xFFFF then next ((s.setTimer n { t with counter := t.reload }).overflowEffects n)
  else s.setTimer n { t with counter := t.counter + 1 }

/-- The cascade input of timer `n` (R773): it ticks when it is enabled in count-up mode. -/
def cascadeInto (n : Fin 4) (tick : State → State) (s : State) : State :=
  if (s.timers.get n).enabled && (s.timers.get n).cascade then tick s else s

/-- `Tick(3)`: no timer above it (R772). -/
def tick3 : State → State := tickWith id 3

/-- `Tick(2)`. -/
def tick2 : State → State := tickWith (cascadeInto 3 tick3) 2

/-- `Tick(1)`. -/
def tick1 : State → State := tickWith (cascadeInto 2 tick2) 1

/-- `Tick(0)`. -/
def tick0 : State → State := tickWith (cascadeInto 1 tick1) 0

/-- `Tick(n)` (R771). -/
def State.tick (s : State) (n : Fin 4) : State :=
  match n with
  | 0 => tick0 s
  | 1 => tick1 s
  | 2 => tick2 s
  | 3 => tick3 s

/-- `repeat k times: Tick(n)` (R770). -/
def State.ticks (s : State) (n : Fin 4) : Nat → State
  | 0 => s
  | k + 1 => (s.ticks n k).tick n

/-- Timer `n` counts prescaled clocks (R770, R774). -/
def Timer.clocked (t : Timer) (n : Fin 4) : Bool := t.enabled && !(n != 0 && t.cascade)

/-- `TimerAdvance` for one timer (R770): the clocks are added to the accumulator exactly. Log entry 15. -/
def State.timerClocks (s : State) (n : Fin 4) (c : Nat) : State :=
  let t := s.timers.get n
  if t.clocked n then
    let sum := t.precounter.toNat + c
    let d := 2 ^ prescaleShift t.prescale
    (s.setTimer n { t with precounter := BitVec.ofNat 32 (sum % d) }).ticks n (sum / d)
  else s

/-- `TimerAdvance` (R770): the four timers in ascending order. -/
def State.timerAdvance (s : State) (c : Nat) : State :=
  (((s.timerClocks 0 c).timerClocks 1 c).timerClocks 2 c).timerClocks 3 c

/-- `charge` (R650): the clocks pass and the timers advance. -/
def State.charge (s : State) (c : Nat) : State := ({ s with clock := s.clock + c } : State).timerAdvance c

/-- The write action of TMnCNT_H (R763): the enable edge loads the counter. -/
def Timer.writeCtl (t : Timer) (new : Half) : Timer :=
  let edge := new.getLsbD 7 && !t.enabled
  { counter := if edge then t.reload else t.counter
    reload := t.reload
    prescale := new.extractLsb' 0 2
    precounter := if edge then 0 else t.precounter
    enabled := new.getLsbD 7
    irqOnOverflow := new.getLsbD 6
    cascade := new.getLsbD 2 }

/-- TMnCNT_H as it reads (R762). -/
def Timer.ctl (t : Timer) : Half :=
  (0 : BitVec 8) ++ BitVec.ofBool t.enabled ++ BitVec.ofBool t.irqOnOverflow ++ (0 : BitVec 3) ++ BitVec.ofBool t.cascade
    ++ t.prescale

end Sys2Proof.Machine
end

