-- ==== Sys2Proof/Machine/Io.lean ====
section
/-! DEFINITION. The block's own IO registers (R700): which bytes they cover, what they read (R703) and what a write by
byte lanes does (R702). -/

namespace Sys2Proof.Machine

/-- The registers of R700. -/
inductive IoReg
  | dmaSad (n : Fin 4)
  | dmaDad (n : Fin 4)
  | dmaCntL (n : Fin 4)
  | dmaCntH (n : Fin 4)
  | tmCntL (n : Fin 4)
  | tmCntH (n : Fin 4)
  | ie
  | ifl
  | ime
  | imeHi
  | haltcnt
  deriving DecidableEq, Repr

/-- The address of a register (R700). -/
def IoReg.base : IoReg → Nat
  | .dmaSad n => 0x040000B0 + 12 * n.val
  | .dmaDad n => 0x040000B4 + 12 * n.val
  | .dmaCntL n => 0x040000B8 + 12 * n.val
  | .dmaCntH n => 0x040000BA + 12 * n.val
  | .tmCntL n => 0x04000100 + 4 * n.val
  | .tmCntH n => 0x04000102 + 4 * n.val
  | .ie => 0x04000200
  | .ifl => 0x04000202
  | .ime => 0x04000208
  | .imeHi => 0x0400020A
  | .haltcnt => 0x04000301

/-- The width of a register in bytes (R700). -/
def IoReg.bytes : IoReg → Nat
  | .dmaSad _ => 4
  | .dmaDad _ => 4
  | .haltcnt => 1
  | _ => 2

/-- The registers of one DMA channel, in increasing address order (R710). -/
def IoReg.ofDma (n : Fin 4) : List IoReg := [.dmaSad n, .dmaDad n, .dmaCntL n, .dmaCntH n]

/-- The registers of one timer, in increasing address order (R760). -/
def IoReg.ofTimer (n : Fin 4) : List IoReg := [.tmCntL n, .tmCntH n]

/-- The registers of the interrupt controller and HALTCNT, in increasing address order. -/
def IoReg.ofControl : List IoReg := [.ie, .ifl, .ime, .imeHi, .haltcnt]

/-- Every register, in increasing address order (R702). -/
def IoReg.all : List IoReg :=
  IoReg.ofDma 0 ++ IoReg.ofDma 1 ++ IoReg.ofDma 2 ++ IoReg.ofDma 3 ++
  IoReg.ofTimer 0 ++ IoReg.ofTimer 1 ++ IoReg.ofTimer 2 ++ IoReg.ofTimer 3 ++ IoReg.ofControl

/-- The address lies in the register. -/
def IoReg.covers (r : IoReg) (a : Nat) : Bool := decide (r.base ≤ a) && decide (a < r.base + r.bytes)

/-- The register that holds the byte at an address (R701). -/
def ioAt (a : Nat) : Option IoReg := IoReg.all.find? fun r => r.covers a

/-- The byte at an address is the block's: the ranges of R700. -/
def isIo (a : Nat) : Bool :=
  (decide (0x040000B0 ≤ a) && decide (a < 0x040000E0)) || (decide (0x04000100 ≤ a) && decide (a < 0x04000110)) ||
  (decide (0x04000200 ≤ a) && decide (a < 0x04000204)) || (decide (0x04000208 ≤ a) && decide (a < 0x0400020C)) ||
  decide (a = 0x04000301)

/-- What a register reads (R703, R704..R708, R712, R761, R762): write-only registers and unused bits read 0. -/
def IoReg.readValue (r : IoReg) (s : State) : Word :=
  match r with
  | .dmaSad _ => 0
  | .dmaDad _ => 0
  | .dmaCntL _ => 0
  | .dmaCntH n => ((s.dma.get n).ctl &&& 0xFFE0).setWidth 32
  | .tmCntL n => (s.timers.get n).counter.setWidth 32
  | .tmCntH n => (s.timers.get n).ctl.setWidth 32
  | .ie => s.irq.ie.setWidth 32
  | .ifl => s.irq.ifl.setWidth 32
  | .ime => (BitVec.ofBool s.irq.ime).setWidth 32
  | .imeHi => 0
  | .haltcnt => 0

/-- The stored value that a partial write merges with (R702), also of a write-only register; of TMnCNT_L it is the
reload (log entry 16). -/
def IoReg.stored (r : IoReg) (s : State) : Word :=
  match r with
  | .dmaSad n => (s.dma.get n).sad
  | .dmaDad n => (s.dma.get n).dad
  | .dmaCntL n => (s.dma.get n).cnt.setWidth 32
  | .dmaCntH n => (s.dma.get n).ctl.setWidth 32
  | .tmCntL n => (s.timers.get n).reload.setWidth 32
  | .tmCntH n => (s.timers.get n).ctl.setWidth 32
  | .ie => s.irq.ie.setWidth 32
  | .ifl => s.irq.ifl.setWidth 32
  | .ime => (BitVec.ofBool s.irq.ime).setWidth 32
  | .imeHi => 0
  | .haltcnt => 0

/-- The write action of a register (R704..R708, R711, R713, R714, R761, R763): `new` is the merged value, `ones` the
bits written as 1, which is all that IF looks at (R705). -/
def IoReg.write (r : IoReg) (s : State) (new ones : Word) : State :=
  match r with
  | .dmaSad n => s.setDma n { s.dma.get n with sad := new }
  | .dmaDad n => s.setDma n { s.dma.get n with dad := new }
  | .dmaCntL n => s.setDma n { s.dma.get n with cnt := new.setWidth 16 }
  | .dmaCntH n => s.writeDmaCtl n (new.setWidth 16)
  | .tmCntL n => s.setTimer n { s.timers.get n with reload := new.setWidth 16 }
  | .tmCntH n => s.setTimer n ((s.timers.get n).writeCtl (new.setWidth 16))
  | .ie => s.writeEnable (new.setWidth 14)
  | .ifl => s.acknowledge (ones.setWidth 14)
  | .ime => s.writeMasterEnable (new.getLsbD 0)
  | .imeHi => s
  | .haltcnt => if new.getLsbD 7 then s.stopOp else s.haltOp

/-- The bits of register `r` whose bytes an access of `k` bytes at `a` covers (R702): its lane mask. -/
def IoReg.lanes (r : IoReg) (a k : Nat) : Word :=
  let lane (j : Nat) : Word :=
    if j < r.bytes ∧ a ≤ r.base + j ∧ r.base + j < a + k then (0xFF : Word) <<< (8 * j) else 0
  lane 0 ||| lane 1 ||| lane 2 ||| lane 3

/-- The bytes of a written value placed at the register's position (R702). -/
def IoReg.place (r : IoReg) (a : Nat) (v : Word) : Word :=
  if r.base ≤ a then v <<< (8 * (a - r.base)) else v >>> (8 * (r.base - a))

/-- One register's part of a write of `k` bytes of `v` at `a` (R702). -/
def IoReg.writeLanes (r : IoReg) (a k : Nat) (v : Word) (s : State) : State :=
  let m := r.lanes a k
  if m = 0 then s else r.write s ((r.stored s &&& ~~~m) ||| (r.place a v &&& m)) (r.place a v &&& m)

/-- A write to the block's registers (R702): those it covers a byte of, in increasing address order. -/
def State.ioWrite (s : State) (a k : Nat) (v : Word) : State :=
  IoReg.all.foldl (fun s r => r.writeLanes a k v s) s

end Sys2Proof.Machine
end

