-- ==== Sys2Proof/Machine/Memory.lean ====
section
/-! DEFINITION. The memory collaborator's bytes (R100, R104, R107): one flat space of 2^32 bytes, held as a list of
(address, byte) pairs in one canonical form. Log entry 5. -/

namespace Sys2Proof.Machine

/-- The byte at an address; an unlisted address reads `Config.unlistedByte`. -/
def Memory.read : List Host.Cell → Nat → Byte
  | [], _ => Config.unlistedByte
  | (k, b) :: rest, a => if k = a then b else Memory.read rest a

/-- Write one byte, keeping the canonical form: the list stays sorted, and writing what an unlisted address reads as
removes the entry. -/
def Memory.write : List Host.Cell → Nat → Byte → List Host.Cell
  | [], a, v => if v = Config.unlistedByte then [] else [(a, v)]
  | (k, b) :: rest, a, v =>
    if a < k then
      (if v = Config.unlistedByte then (k, b) :: rest else (a, v) :: (k, b) :: rest)
    else if a = k then
      (if v = Config.unlistedByte then rest else (a, v) :: rest)
    else (k, b) :: Memory.write rest a v

/-- The list is canonical from address `lo` on: addresses strictly rising inside the space, no entry equal to what an
unlisted address reads as. -/
def Memory.wfFrom : Nat → List Host.Cell → Bool
  | _, [] => true
  | lo, (k, b) :: rest => decide (lo ≤ k) && decide (k < 2 ^ 32) && decide (b ≠ Config.unlistedByte) && Memory.wfFrom (k + 1) rest

/-- The canonical form. -/
def Memory.wf (m : List Host.Cell) : Bool := Memory.wfFrom 0 m

end Sys2Proof.Machine
end

