-- ==== Sys2Proof/Machine/Bus.lean ====
section
/-! DEFINITION. Accesses: routing between the memory collaborator and the block's registers by byte lane (R701), byte
order (R106), alignment (R108, R109), and the cost of each access (R71, R126). -/

namespace Sys2Proof.Machine

/-! ## Values -/

/-- The byte that a read returns at an address (R701, R703): the block's, or the memory collaborator's. -/
def State.byteAt (s : State) (a : Nat) : Byte :=
  match ioAt a with
  | some r => (r.readValue s >>> (8 * (a - r.base))).setWidth 8
  | none => Memory.read s.mem a

/-- The 8-bit read (R101). -/
def State.read8 (s : State) (a : Word) : Byte := s.byteAt a.toNat

/-- The 16-bit read, little-endian, at an aligned address (R106, R107). -/
def State.read16 (s : State) (a : Word) : Half := s.byteAt (a.toNat + 1) ++ s.byteAt a.toNat

/-- The 32-bit read, little-endian, at an aligned address (R106, R107). -/
def State.read32 (s : State) (a : Word) : Word :=
  s.byteAt (a.toNat + 3) ++ s.byteAt (a.toNat + 2) ++ s.byteAt (a.toNat + 1) ++ s.byteAt a.toNat

/-- Byte `j` of a value (R106). -/
def byteOf (v : Word) (j : Nat) : Byte := (v >>> (8 * j)).setWidth 8

/-- Write a byte to the memory collaborator, unless the lane is the block's (R701). -/
def memLane (m : List Host.Cell) (a : Nat) (b : Byte) : List Host.Cell := if isIo a then m else Memory.write m a b

/-- The memory collaborator's part of a write of `k` bytes (R701). -/
def memLanes (m : List Host.Cell) (a : Nat) (v : Word) : Nat → List Host.Cell
  | 0 => m
  | k + 1 => memLane (memLanes m a v k) (a + k) (byteOf v k)

/-- Some byte of an access is the block's (R701). -/
def touchesIo (a : Nat) : Nat → Bool
  | 0 => false
  | k + 1 => touchesIo a k || isIo (a + k)

/-- A write of `k` bytes at an address (R701): first the block's lanes (R702), then the collaborator's. -/
def State.writeBytes (s : State) (a k : Nat) (v : Word) : State :=
  let s1 := if touchesIo a k then s.ioWrite a k v else s
  { s1 with mem := memLanes s1.mem a v k }

/-! ## Costs -/

/-- The access continues the previous one (R71, R830); a branch is judged by this formula too (log entry 33). -/
def State.sequential (s : State) (g : Agent) (a : Word) (w : Width) : Bool :=
  s.busLast == some ⟨g, a - BitVec.ofNat 32 w.bytes, w⟩

/-- Account for one access (R71, R126): its clocks are charged to the step in progress, and it is the last access. Log
entry 14. -/
def State.access (s : State) (g : Agent) (a : Word) (w : Width) (k : AccessKind) : State :=
  { s with
    stepClocks := s.stepClocks + Config.busCost g a w k (s.sequential g a w)
    busLast := some ⟨g, a, w⟩ }

/-! ## CPU and DMA accesses -/

/-- `MemWrite` (R101) at the address the access uses. -/
def State.memWrite (s : State) (a : Word) (w : Width) (v : Word) : State :=
  (s.access .cpu a w .write).writeBytes a.toNat w.bytes v

/-- The kinds of load (R108, R109). -/
inductive LoadKind
  | word | half | byte | signedHalf | signedByte
  deriving DecidableEq, Repr

/-- The value a load returns (R108, R109): a misaligned word or halfword rotates, a signed halfword at an odd address
is the byte there. -/
def State.loadValue (s : State) (k : LoadKind) (a : Word) : Word :=
  match k with
  | .word => (s.read32 (alignWord a)).rotateRight (8 * (a.toNat % 4))
  | .half => ((s.read16 (alignHalf a)).setWidth 32).rotateRight (8 * (a.toNat % 2))
  | .byte => (s.read8 a).setWidth 32
  | .signedHalf => if a.getLsbD 0 then (s.read8 a).signExtend 32 else (s.read16 a).signExtend 32
  | .signedByte => (s.read8 a).signExtend 32

/-- The access a load makes (R108, R109, R112). -/
def State.loadAccess (s : State) (k : LoadKind) (a : Word) : State :=
  match k with
  | .word => s.access .cpu (alignWord a) .word .read
  | .half => s.access .cpu (alignHalf a) .half .read
  | .byte => s.access .cpu a .byte .read
  | .signedHalf => if a.getLsbD 0 then s.access .cpu a .byte .read else s.access .cpu a .half .read
  | .signedByte => s.access .cpu a .byte .read

/-- The kinds of store (R108, R109). -/
inductive StoreKind
  | word | half | byte
  deriving DecidableEq, Repr

/-- The address a store uses (R108, R109): a word or halfword store aligns down. -/
def storeAddr (k : StoreKind) (a : Word) : Word :=
  match k with
  | .word => alignWord a
  | .half => alignHalf a
  | .byte => a

/-- The width of a store (R108, R109). -/
def storeWidth : StoreKind → Width
  | .word => .word
  | .half => .half
  | .byte => .byte

/-- `StoreWord`, `StoreHalf`, `StoreByte` (R108, R109): unrotated, at the aligned address. -/
def State.store (s : State) (k : StoreKind) (a v : Word) : State := s.memWrite (storeAddr k a) (storeWidth k) v

/-- The value a fetch at `pc` returns (R103): 32 bits in ARM state, 16 in THUMB state, zero-extended (R59). -/
def State.fetchValue (s : State) : Word := if s.cpsr.t then (s.read16 s.pc).setWidth 32 else s.read32 s.pc

/-- The width of a fetch (R103). -/
def State.fetchWidth (s : State) : Width := if s.cpsr.t then .half else .word

/-- `Fetch` at `pc` (R103): its access, of the kind `fetch` (log entry 34), and `lastFetch`. -/
def State.fetch (s : State) : State :=
  { s.access .cpu s.pc s.fetchWidth .fetch with lastFetch := s.fetchValue }

/-- `DmaRead` as an access (R102). -/
def State.dmaRead (s : State) (n : Fin 4) (a : Word) (w : Width) : State := s.access (.dma n) a w .read

/-- `DmaWrite` (R102). -/
def State.dmaWrite (s : State) (n : Fin 4) (a : Word) (w : Width) (v : Word) : State :=
  (s.access (.dma n) a w .write).writeBytes a.toNat w.bytes v

end Sys2Proof.Machine
end

