-- ==== Sys2Proof/Machine/Alu.lean ====
section
/-! DEFINITION. The sixteen data-processing operations (R230..R245), each the result and the status word its S form
leaves, and the product and cycle rules of the multiplies (R290..R296, R834). The THUMB operations are the same ones
(R400..R426). -/

namespace Sys2Proof.Machine

/-- A result and the CPSR its flag-setting form leaves. -/
structure AluOut where
  r : Word
  p : Cpsr
  deriving DecidableEq, Repr

/-- A logical operation's output (R226): C is the shifter carry. -/
def logicOut (r : Word) (b : Shifted) (p : Cpsr) : AluOut := ⟨r, p.logic r b.sc⟩

/-- An arithmetic operation's output (R227): C and V are those of AddWithCarry. -/
def arithOut (x : AddResult) (p : Cpsr) : AluOut := ⟨x.r, p.arith x⟩

/-- A data-processing operation over `a = x[Rn]`, the shifter operand and the CPSR before it. -/
abbrev Alu := Word → Shifted → Cpsr → AluOut

/-- AND (R230). -/
def aluAnd : Alu := fun a b p => logicOut (a &&& b.op2) b p
/-- EOR (R231). -/
def aluEor : Alu := fun a b p => logicOut (a ^^^ b.op2) b p
/-- SUB (R232). -/
def aluSub : Alu := fun a b p => arithOut (addWithCarry a (~~~b.op2) true) p
/-- RSB (R233). -/
def aluRsb : Alu := fun a b p => arithOut (addWithCarry b.op2 (~~~a) true) p
/-- ADD (R234). -/
def aluAdd : Alu := fun a b p => arithOut (addWithCarry a b.op2 false) p
/-- ADC (R235). -/
def aluAdc : Alu := fun a b p => arithOut (addWithCarry a b.op2 p.c) p
/-- SBC (R236). -/
def aluSbc : Alu := fun a b p => arithOut (addWithCarry a (~~~b.op2) p.c) p
/-- RSC (R237). -/
def aluRsc : Alu := fun a b p => arithOut (addWithCarry b.op2 (~~~a) p.c) p
/-- TST (R238). -/
def aluTst : Alu := fun a b p => logicOut (a &&& b.op2) b p
/-- TEQ (R239). -/
def aluTeq : Alu := fun a b p => logicOut (a ^^^ b.op2) b p
/-- CMP (R240). -/
def aluCmp : Alu := fun a b p => arithOut (addWithCarry a (~~~b.op2) true) p
/-- CMN (R241). -/
def aluCmn : Alu := fun a b p => arithOut (addWithCarry a b.op2 false) p
/-- ORR (R242). -/
def aluOrr : Alu := fun a b p => logicOut (a ||| b.op2) b p
/-- MOV (R243): Rn ignored. -/
def aluMov : Alu := fun _ b p => logicOut b.op2 b p
/-- BIC (R244). -/
def aluBic : Alu := fun a b p => logicOut (a &&& ~~~b.op2) b p
/-- MVN (R245): Rn ignored. -/
def aluMvn : Alu := fun _ b p => logicOut (~~~b.op2) b p

/-- Bits 31:lo are all zeros, or all ones where those count too (R834). -/
def mulRun (ones : Bool) (s : Word) (lo : Nat) : Bool :=
  s >>> lo == 0 || (ones && s >>> lo == (0xFFFFFFFF : Word) >>> lo)

/-- The internal cycles of a multiply (R834); `ones` is false for UMULL and UMLAL. -/
def mulCycles (ones : Bool) (s : Word) : Nat :=
  if mulRun ones s 8 then 1 else if mulRun ones s 16 then 2 else if mulRun ones s 24 then 3 else 4

/-- The unsigned 64-bit product (R293). -/
def umulFull (a b : Word) : BitVec 64 := a.setWidth 64 * b.setWidth 64

/-- The signed 64-bit product (R295). -/
def smulFull (a b : Word) : BitVec 64 := a.signExtend 64 * b.signExtend 64

end Sys2Proof.Machine
end

