-- ==== Sys2Proof/Machine/BlockTransfer.lean ====
section
/-! DEFINITION. LDM and STM (R340..R343). -/

namespace Sys2Proof.Machine

/-- The registers a block transfer moves: an empty list moves R15 only (R343). Log entry 11. -/
def blockRegs (l : BitVec 16) : List RegNo := if l = 0 then [15#4] else regList l

/-- The count `n` of R340: 16 for an empty list. -/
def blockCount (l : BitVec 16) : Nat := if l = 0 then 16 else (regList l).length

/-- Four bytes for each register. -/
def blockSize (l : BitVec 16) : Word := BitVec.ofNat 32 (4 * blockCount l)

/-- The first address (R340). -/
def blockStart (p u : Bool) (base size : Word) : Word :=
  match p, u with
  | false, true => base
  | true, true => base + 4
  | false, false => base - size + 4
  | true, false => base - size

/-- The final (writeback) value (R340). -/
def blockFinal (u : Bool) (base size : Word) : Word := if u then base + size else base - size

/-- Each register with its address, four bytes apart (R340). -/
def blockSlots : List RegNo → Word → List (RegNo × Word)
  | [], _ => []
  | r :: rest, a => (r, a) :: blockSlots rest (a + 4)

/-- The word each register is loaded with (R341): aligned, no rotation. -/
def State.blockLoad (s : State) (slots : List (RegNo × Word)) : List (RegNo × Word) :=
  slots.map fun x => (x.1, s.read32 (alignWord x.2))

/-- The accesses of a block load, in order. -/
def State.blockReads (s : State) (slots : List (RegNo × Word)) : State :=
  slots.foldl (fun s x => s.access .cpu (alignWord x.2) .word .read) s

/-- The register writes of a block load, R15 left out (R341). -/
def State.blockSet (s : State) (user : Bool) (vals : List (RegNo × Word)) : State :=
  vals.foldl (fun s x => if x.1 = 15#4 then s else if user then s.setUserReg x.1 x.2 else s.setReg x.1 x.2) s

/-- The write of R15 at the end of a block load (R341). -/
def State.blockBranch (s : State) (restore : Bool) (vals : List (RegNo × Word)) : State :=
  match vals.find? (fun x => x.1 == 15#4) with
  | some x => (if restore then s.restoreCpsr else s).branch x.2
  | none => s

/-- The block stores, in order (R342). -/
def State.blockStore (s : State) (vals : List (RegNo × Word × Word)) : State :=
  vals.foldl (fun s x => s.store .word x.2.1 x.2.2) s

/-- The value stored for a register (R342): R15 stores A + 12; a base that is written back and is not the lowest
register of the list stores the final value. -/
def State.stmValue (s : State) (S w : Bool) (rn lowest : RegNo) (final : Word) (r : RegNo) : Word :=
  if r = rn ∧ w ∧ r ≠ lowest then final
  else if r = 15#4 then s.pcPlus
  else if S then s.userReg r
  else s.reg r

/-- The lowest register of a list (R342). -/
def lowestReg (l : BitVec 16) : RegNo := (blockRegs l).headD 15#4

/-- The list names a register. -/
def inList (l : BitVec 16) (r : RegNo) : Bool := (blockRegs l).contains r

/-- LDM (R341): the reads, the writeback, the registers, then R15; one internal cycle (R832). -/
def State.ldm (s : State) (p u S w : Bool) (rn : RegNo) (l : BitVec 16) : State :=
  let size := blockSize l
  let slots := blockSlots (blockRegs l) (blockStart p u (s.reg rn) size)
  let vals := s.blockLoad slots
  let s1 := s.blockReads slots
  let s2 := if w then s1.setReg rn (blockFinal u (s.reg rn) size) else s1
  let s3 := s2.blockSet (S && !inList l 15#4) vals
  (s3.blockBranch S vals).internal 1

/-- What each register of an STM stores, with its address (R342). -/
def State.stmVals (s : State) (p u S w : Bool) (rn : RegNo) (l : BitVec 16) : List (RegNo × Word × Word) :=
  let size := blockSize l
  let base := s.reg rn
  (blockSlots (blockRegs l) (blockStart p u base size)).map fun x =>
    (x.1, x.2, s.stmValue S w rn (lowestReg l) (blockFinal u base size) x.1)

/-- STM (R342). -/
def State.stm (s : State) (p u S w : Bool) (rn : RegNo) (l : BitVec 16) : State :=
  let s1 := s.blockStore (s.stmVals p u S w rn l)
  if w then s1.setReg rn (blockFinal u (s.reg rn) (blockSize l)) else s1

/-- User and System mode, where the S bit of LDM and STM is unpredictable (R343). -/
def noSpsrMode (m : Mode) : Bool := m == .user || m == .sys

/-- Remember a user-bank LDM for LDM-S-user-next (R343), under the policy `strict` only. -/
def State.noteUserLdm (s : State) (user : Bool) : State :=
  match Config.unpredPolicy with
  | .fixed => s
  | .strict => { s with userLdm := user }

/-- The unpredictable cases of LDM (R343, R47). -/
def ldmCases (S w : Bool) (rn : RegNo) (l : BitVec 16) (s : State) : List (UnpredCase × Bool) :=
  [(.ldmStmEmpty, l == 0), (.ldmBaseInList, w && inList l rn), (.ldmStmSWriteback, S && w && !inList l 15#4),
   (.ldmStmSUser, S && noSpsrMode s.cpsr.mode), (.cpsrBadMode, S && inList l 15#4 && s.badRestore)]

/-- The unpredictable cases of STM (R343). -/
def stmCases (S w : Bool) (rn : RegNo) (l : BitVec 16) (s : State) : List (UnpredCase × Bool) :=
  [(.ldmStmEmpty, l == 0), (.stmBaseInList, w && inList l rn && rn != lowestReg l), (.ldmStmSWriteback, S && w),
   (.ldmStmSUser, S && noSpsrMode s.cpsr.mode)]

/-- LDM (R341). -/
def execLdm (c : Cond) (p u S w : Bool) (rn : RegNo) (l : BitVec 16) (s : State) : Result :=
  runArm c s (ldmCases S w rn l s) ((s.ldm p u S w rn l).noteUserLdm (S && !inList l 15#4))

/-- STM (R342). -/
def execStm (c : Cond) (p u S w : Bool) (rn : RegNo) (l : BitVec 16) (s : State) : Result :=
  runArm c s (stmCases S w rn l s) (s.stm p u S w rn l)

end Sys2Proof.Machine
end

