-- ==== Sys2Proof/Machine/BranchUndef.lean ====
section
/-! DEFINITION. The ARM branches (R200..R202), SWI (R380), the coprocessor instructions (R381..R388) and the undefined
spaces (R175, R385). -/

namespace Sys2Proof.Machine

/-- The target of an ARM branch (R163, R200). -/
def State.armTarget (s : State) (off : BitVec 24) : Word := s.reg 15#4 + (off ++ 0#2).signExtend 32

/-- BX to `v` (R202, R433): bit 0 selects the instruction set, for which the target is then aligned. -/
def State.branchExchange (s : State) (v : Word) : State :=
  ({ s with cpsr := { s.cpsr with t := v.getLsbD 0 } } : State).branch v

/-- BX to ARM state with bit 1 set (R202, R433). -/
def bxCase (v : Word) : UnpredCase × Bool := (.bxArmMisaligned, !v.getLsbD 0 && v.getLsbD 1)

/-- B (R200). -/
def execB (c : Cond) (off : BitVec 24) (s : State) : Result :=
  runArm c s [] (s.branch (s.armTarget off))

/-- BL (R201). -/
def execBl (c : Cond) (off : BitVec 24) (s : State) : Result :=
  runArm c s [] ((s.setReg 14#4 (s.reg 15#4 - 4)).branch (s.armTarget off))

/-- BX (R202). -/
def execBx (c : Cond) (_x1 : BitVec 12) (rm : RegNo) (s : State) : Result :=
  runArm c s [bxCase (s.reg rm)] (s.branchExchange (s.reg rm))

/-- SWI; the comment field is ignored (R380). -/
def execSwi (c : Cond) (_comment : BitVec 24) (s : State) : Result :=
  runArm c s [] s.raiseSwi

/-- CDP takes the Undefined trap: no coprocessor is attached (R383). -/
def execCdp (c : Cond) (_opc _crn _crd _cp : BitVec 4) (_info : BitVec 3) (_crm : BitVec 4) (s : State) : Result :=
  runArm c s [] s.raiseUndefined

/-- LDC takes the Undefined trap: no coprocessor is attached (R384). -/
def execLdc (c : Cond) (_p _u _n _w : Bool) (_rn : RegNo) (_crd _cp : BitVec 4) (_off : BitVec 8) (s : State) : Result :=
  runArm c s [] s.raiseUndefined

/-- STC takes the Undefined trap: no coprocessor is attached (R386). -/
def execStc (c : Cond) (_p _u _n _w : Bool) (_rn : RegNo) (_crd _cp : BitVec 4) (_off : BitVec 8) (s : State) : Result :=
  runArm c s [] s.raiseUndefined

/-- MCR takes the Undefined trap: no coprocessor is attached (R387). -/
def execMcr (c : Cond) (_opc : BitVec 3) (_crn : BitVec 4) (_rd : RegNo) (_cp : BitVec 4) (_info : BitVec 3) (_crm : BitVec 4) (s : State) : Result :=
  runArm c s [] s.raiseUndefined

/-- MRC takes the Undefined trap: no coprocessor is attached (R388). -/
def execMrc (c : Cond) (_opc : BitVec 3) (_crn : BitVec 4) (_rd : RegNo) (_cp : BitVec 4) (_info : BitVec 3) (_crm : BitVec 4) (s : State) : Result :=
  runArm c s [] s.raiseUndefined

/-- Undefined space U1 (R385). -/
def execUndefU1 (c : Cond) (_op : BitVec 5) (_x1 : BitVec 12) (_x2 : BitVec 4) (s : State) : Result :=
  runArm c s [] s.raiseUndefined

/-- Undefined space U2 (R385). -/
def execUndefU2 (c : Cond) (_op : BitVec 4) (_x1 : BitVec 12) (_h : Bool) (_x2 : BitVec 4) (s : State) : Result :=
  runArm c s [] s.raiseUndefined

/-- Undefined space U3 (R385). -/
def execUndefU3 (c : Cond) (_op : BitVec 2) (_x1 : BitVec 12) (_lo _x2 : BitVec 4) (s : State) : Result :=
  runArm c s [] s.raiseUndefined

/-- Undefined space U4 (R385). -/
def execUndefU4 (c : Cond) (_R : Bool) (_x1 : BitVec 20) (s : State) : Result :=
  runArm c s [] s.raiseUndefined

/-- Undefined space U5 (R385). -/
def execUndefU5 (c : Cond) (_x1 : BitVec 20) (_x2 : BitVec 4) (s : State) : Result :=
  runArm c s [] s.raiseUndefined

end Sys2Proof.Machine
end

