-- ==== Sys2Proof/Machine/DataProc.lean ====
section
/-! DEFINITION. The ARM data-processing instructions (R220..R245). -/

namespace Sys2Proof.Machine

/-- The result write of R225: Rd = R15 is a branch, with S = 1 an exception return and no flag write; otherwise Rd gets
the result, and with S = 1 the flags theirs. -/
def State.dpWrite (s : State) (S : Bool) (rd : RegNo) (x : AluOut) : State :=
  if rd = 15#4 then (if S then s.restoreCpsr else s).branch x.r
  else
    let s1 := s.setReg rd x.r
    if S then { s1 with cpsr := x.p } else s1

/-- An exception return that would write a mode that is no mode (R47, R225). -/
def dpReturnCase (S : Bool) (rd : RegNo) (s : State) : UnpredCase × Bool :=
  (.cpsrBadMode, S && rd == 15#4 && s.badRestore)

/-- The unpredictable cases of the register-shift form (R224). -/
def dpShiftCases (rs rd : RegNo) : List (UnpredCase × Bool) := [(.dpRsPc, rs == 15#4), (.dpRegshiftRdPc, rd == 15#4)]

/-- The shifter operand of the register-shift form: R15 reads A + 12 (R223, R224). -/
def State.regShifted (s : State) (t : Shift) (rs rm : RegNo) : Shifted :=
  shiftReg t ((s.regShiftOperand rs).setWidth 8) (s.regShiftOperand rm) s.cpsr.c

/-- Immediate form (F-A3). -/
def dpImm (f : Alu) (c : Cond) (S : Bool) (rn rd : RegNo) (rot : BitVec 4) (imm : BitVec 8) (s : State) : Result :=
  runArm c s [dpReturnCase S rd s] (s.dpWrite S rd (f (s.reg rn) (rotImm rot imm s.cpsr.c) s.cpsr))

/-- Register form shifted by an immediate (F-A1). -/
def dpShiftImm (f : Alu) (c : Cond) (S : Bool) (rn rd : RegNo) (n : BitVec 5) (t : Shift) (rm : RegNo) (s : State) :
    Result :=
  runArm c s [dpReturnCase S rd s] (s.dpWrite S rd (f (s.reg rn) (shiftImm t n (s.reg rm) s.cpsr.c) s.cpsr))

/-- Register form shifted by a register (F-A2): one internal cycle (R832). -/
def dpShiftReg (f : Alu) (c : Cond) (S : Bool) (rn rd rs : RegNo) (t : Shift) (rm : RegNo) (s : State) : Result :=
  runArm c s (dpShiftCases rs rd ++ [dpReturnCase S rd s])
    ((s.dpWrite S rd (f (s.regShiftOperand rn) (s.regShifted t rs rm) s.cpsr)).internal 1)

/-- A test or compare writes the flags only; Rd is ignored (R225, R228). -/
def State.dpTest (s : State) (x : AluOut) : State := { s with cpsr := x.p }

/-- Test or compare, immediate form (F-A3). -/
def testImm (f : Alu) (c : Cond) (rn : RegNo) (rot : BitVec 4) (imm : BitVec 8) (s : State) : Result :=
  runArm c s [] (s.dpTest (f (s.reg rn) (rotImm rot imm s.cpsr.c) s.cpsr))

/-- Test or compare, register form shifted by an immediate (F-A1). -/
def testShiftImm (f : Alu) (c : Cond) (rn : RegNo) (n : BitVec 5) (t : Shift) (rm : RegNo) (s : State) : Result :=
  runArm c s [] (s.dpTest (f (s.reg rn) (shiftImm t n (s.reg rm) s.cpsr.c) s.cpsr))

/-- Test or compare, register form shifted by a register (F-A2): one internal cycle (R832). -/
def testShiftReg (f : Alu) (c : Cond) (rn rd rs : RegNo) (t : Shift) (rm : RegNo) (s : State) : Result :=
  runArm c s (dpShiftCases rs rd)
    ((s.dpTest (f (s.regShiftOperand rn) (s.regShifted t rs rm) s.cpsr)).internal 1)

/-- AND, immediate (R230). -/
def execAndImm (c : Cond) (S : Bool) (rn rd : RegNo) (rot : BitVec 4) (imm : BitVec 8) (s : State) : Result :=
  dpImm aluAnd c S rn rd rot imm s

/-- AND, register shifted by an immediate (R230). -/
def execAndShiftImm (c : Cond) (S : Bool) (rn rd : RegNo) (n : BitVec 5) (t : Shift) (rm : RegNo) (s : State) : Result :=
  dpShiftImm aluAnd c S rn rd n t rm s

/-- AND, register shifted by a register (R230). -/
def execAndShiftReg (c : Cond) (S : Bool) (rn rd rs : RegNo) (t : Shift) (rm : RegNo) (s : State) : Result :=
  dpShiftReg aluAnd c S rn rd rs t rm s

/-- EOR, immediate (R231). -/
def execEorImm (c : Cond) (S : Bool) (rn rd : RegNo) (rot : BitVec 4) (imm : BitVec 8) (s : State) : Result :=
  dpImm aluEor c S rn rd rot imm s

/-- EOR, register shifted by an immediate (R231). -/
def execEorShiftImm (c : Cond) (S : Bool) (rn rd : RegNo) (n : BitVec 5) (t : Shift) (rm : RegNo) (s : State) : Result :=
  dpShiftImm aluEor c S rn rd n t rm s

/-- EOR, register shifted by a register (R231). -/
def execEorShiftReg (c : Cond) (S : Bool) (rn rd rs : RegNo) (t : Shift) (rm : RegNo) (s : State) : Result :=
  dpShiftReg aluEor c S rn rd rs t rm s

/-- SUB, immediate (R232). -/
def execSubImm (c : Cond) (S : Bool) (rn rd : RegNo) (rot : BitVec 4) (imm : BitVec 8) (s : State) : Result :=
  dpImm aluSub c S rn rd rot imm s

/-- SUB, register shifted by an immediate (R232). -/
def execSubShiftImm (c : Cond) (S : Bool) (rn rd : RegNo) (n : BitVec 5) (t : Shift) (rm : RegNo) (s : State) : Result :=
  dpShiftImm aluSub c S rn rd n t rm s

/-- SUB, register shifted by a register (R232). -/
def execSubShiftReg (c : Cond) (S : Bool) (rn rd rs : RegNo) (t : Shift) (rm : RegNo) (s : State) : Result :=
  dpShiftReg aluSub c S rn rd rs t rm s

/-- RSB, immediate (R233). -/
def execRsbImm (c : Cond) (S : Bool) (rn rd : RegNo) (rot : BitVec 4) (imm : BitVec 8) (s : State) : Result :=
  dpImm aluRsb c S rn rd rot imm s

/-- RSB, register shifted by an immediate (R233). -/
def execRsbShiftImm (c : Cond) (S : Bool) (rn rd : RegNo) (n : BitVec 5) (t : Shift) (rm : RegNo) (s : State) : Result :=
  dpShiftImm aluRsb c S rn rd n t rm s

/-- RSB, register shifted by a register (R233). -/
def execRsbShiftReg (c : Cond) (S : Bool) (rn rd rs : RegNo) (t : Shift) (rm : RegNo) (s : State) : Result :=
  dpShiftReg aluRsb c S rn rd rs t rm s

/-- ADD, immediate (R234). -/
def execAddImm (c : Cond) (S : Bool) (rn rd : RegNo) (rot : BitVec 4) (imm : BitVec 8) (s : State) : Result :=
  dpImm aluAdd c S rn rd rot imm s

/-- ADD, register shifted by an immediate (R234). -/
def execAddShiftImm (c : Cond) (S : Bool) (rn rd : RegNo) (n : BitVec 5) (t : Shift) (rm : RegNo) (s : State) : Result :=
  dpShiftImm aluAdd c S rn rd n t rm s

/-- ADD, register shifted by a register (R234). -/
def execAddShiftReg (c : Cond) (S : Bool) (rn rd rs : RegNo) (t : Shift) (rm : RegNo) (s : State) : Result :=
  dpShiftReg aluAdd c S rn rd rs t rm s

/-- ADC, immediate (R235). -/
def execAdcImm (c : Cond) (S : Bool) (rn rd : RegNo) (rot : BitVec 4) (imm : BitVec 8) (s : State) : Result :=
  dpImm aluAdc c S rn rd rot imm s

/-- ADC, register shifted by an immediate (R235). -/
def execAdcShiftImm (c : Cond) (S : Bool) (rn rd : RegNo) (n : BitVec 5) (t : Shift) (rm : RegNo) (s : State) : Result :=
  dpShiftImm aluAdc c S rn rd n t rm s

/-- ADC, register shifted by a register (R235). -/
def execAdcShiftReg (c : Cond) (S : Bool) (rn rd rs : RegNo) (t : Shift) (rm : RegNo) (s : State) : Result :=
  dpShiftReg aluAdc c S rn rd rs t rm s

/-- SBC, immediate (R236). -/
def execSbcImm (c : Cond) (S : Bool) (rn rd : RegNo) (rot : BitVec 4) (imm : BitVec 8) (s : State) : Result :=
  dpImm aluSbc c S rn rd rot imm s

/-- SBC, register shifted by an immediate (R236). -/
def execSbcShiftImm (c : Cond) (S : Bool) (rn rd : RegNo) (n : BitVec 5) (t : Shift) (rm : RegNo) (s : State) : Result :=
  dpShiftImm aluSbc c S rn rd n t rm s

/-- SBC, register shifted by a register (R236). -/
def execSbcShiftReg (c : Cond) (S : Bool) (rn rd rs : RegNo) (t : Shift) (rm : RegNo) (s : State) : Result :=
  dpShiftReg aluSbc c S rn rd rs t rm s

/-- RSC, immediate (R237). -/
def execRscImm (c : Cond) (S : Bool) (rn rd : RegNo) (rot : BitVec 4) (imm : BitVec 8) (s : State) : Result :=
  dpImm aluRsc c S rn rd rot imm s

/-- RSC, register shifted by an immediate (R237). -/
def execRscShiftImm (c : Cond) (S : Bool) (rn rd : RegNo) (n : BitVec 5) (t : Shift) (rm : RegNo) (s : State) : Result :=
  dpShiftImm aluRsc c S rn rd n t rm s

/-- RSC, register shifted by a register (R237). -/
def execRscShiftReg (c : Cond) (S : Bool) (rn rd rs : RegNo) (t : Shift) (rm : RegNo) (s : State) : Result :=
  dpShiftReg aluRsc c S rn rd rs t rm s

/-- TST, immediate (R238). -/
def execTstImm (c : Cond) (rn _rd : RegNo) (rot : BitVec 4) (imm : BitVec 8) (s : State) : Result :=
  testImm aluTst c rn rot imm s

/-- TST, register shifted by an immediate (R238). -/
def execTstShiftImm (c : Cond) (rn _rd : RegNo) (n : BitVec 5) (t : Shift) (rm : RegNo) (s : State) : Result :=
  testShiftImm aluTst c rn n t rm s

/-- TST, register shifted by a register (R238). -/
def execTstShiftReg (c : Cond) (rn rd rs : RegNo) (t : Shift) (rm : RegNo) (s : State) : Result :=
  testShiftReg aluTst c rn rd rs t rm s

/-- TEQ, immediate (R239). -/
def execTeqImm (c : Cond) (rn _rd : RegNo) (rot : BitVec 4) (imm : BitVec 8) (s : State) : Result :=
  testImm aluTeq c rn rot imm s

/-- TEQ, register shifted by an immediate (R239). -/
def execTeqShiftImm (c : Cond) (rn _rd : RegNo) (n : BitVec 5) (t : Shift) (rm : RegNo) (s : State) : Result :=
  testShiftImm aluTeq c rn n t rm s

/-- TEQ, register shifted by a register (R239). -/
def execTeqShiftReg (c : Cond) (rn rd rs : RegNo) (t : Shift) (rm : RegNo) (s : State) : Result :=
  testShiftReg aluTeq c rn rd rs t rm s

/-- CMP, immediate (R240). -/
def execCmpImm (c : Cond) (rn _rd : RegNo) (rot : BitVec 4) (imm : BitVec 8) (s : State) : Result :=
  testImm aluCmp c rn rot imm s

/-- CMP, register shifted by an immediate (R240). -/
def execCmpShiftImm (c : Cond) (rn _rd : RegNo) (n : BitVec 5) (t : Shift) (rm : RegNo) (s : State) : Result :=
  testShiftImm aluCmp c rn n t rm s

/-- CMP, register shifted by a register (R240). -/
def execCmpShiftReg (c : Cond) (rn rd rs : RegNo) (t : Shift) (rm : RegNo) (s : State) : Result :=
  testShiftReg aluCmp c rn rd rs t rm s

/-- CMN, immediate (R241). -/
def execCmnImm (c : Cond) (rn _rd : RegNo) (rot : BitVec 4) (imm : BitVec 8) (s : State) : Result :=
  testImm aluCmn c rn rot imm s

/-- CMN, register shifted by an immediate (R241). -/
def execCmnShiftImm (c : Cond) (rn _rd : RegNo) (n : BitVec 5) (t : Shift) (rm : RegNo) (s : State) : Result :=
  testShiftImm aluCmn c rn n t rm s

/-- CMN, register shifted by a register (R241). -/
def execCmnShiftReg (c : Cond) (rn rd rs : RegNo) (t : Shift) (rm : RegNo) (s : State) : Result :=
  testShiftReg aluCmn c rn rd rs t rm s

/-- ORR, immediate (R242). -/
def execOrrImm (c : Cond) (S : Bool) (rn rd : RegNo) (rot : BitVec 4) (imm : BitVec 8) (s : State) : Result :=
  dpImm aluOrr c S rn rd rot imm s

/-- ORR, register shifted by an immediate (R242). -/
def execOrrShiftImm (c : Cond) (S : Bool) (rn rd : RegNo) (n : BitVec 5) (t : Shift) (rm : RegNo) (s : State) : Result :=
  dpShiftImm aluOrr c S rn rd n t rm s

/-- ORR, register shifted by a register (R242). -/
def execOrrShiftReg (c : Cond) (S : Bool) (rn rd rs : RegNo) (t : Shift) (rm : RegNo) (s : State) : Result :=
  dpShiftReg aluOrr c S rn rd rs t rm s

/-- MOV, immediate (R243). -/
def execMovImm (c : Cond) (S : Bool) (rn rd : RegNo) (rot : BitVec 4) (imm : BitVec 8) (s : State) : Result :=
  dpImm aluMov c S rn rd rot imm s

/-- MOV, register shifted by an immediate (R243). -/
def execMovShiftImm (c : Cond) (S : Bool) (rn rd : RegNo) (n : BitVec 5) (t : Shift) (rm : RegNo) (s : State) : Result :=
  dpShiftImm aluMov c S rn rd n t rm s

/-- MOV, register shifted by a register (R243). -/
def execMovShiftReg (c : Cond) (S : Bool) (rn rd rs : RegNo) (t : Shift) (rm : RegNo) (s : State) : Result :=
  dpShiftReg aluMov c S rn rd rs t rm s

/-- BIC, immediate (R244). -/
def execBicImm (c : Cond) (S : Bool) (rn rd : RegNo) (rot : BitVec 4) (imm : BitVec 8) (s : State) : Result :=
  dpImm aluBic c S rn rd rot imm s

/-- BIC, register shifted by an immediate (R244). -/
def execBicShiftImm (c : Cond) (S : Bool) (rn rd : RegNo) (n : BitVec 5) (t : Shift) (rm : RegNo) (s : State) : Result :=
  dpShiftImm aluBic c S rn rd n t rm s

/-- BIC, register shifted by a register (R244). -/
def execBicShiftReg (c : Cond) (S : Bool) (rn rd rs : RegNo) (t : Shift) (rm : RegNo) (s : State) : Result :=
  dpShiftReg aluBic c S rn rd rs t rm s

/-- MVN, immediate (R245). -/
def execMvnImm (c : Cond) (S : Bool) (rn rd : RegNo) (rot : BitVec 4) (imm : BitVec 8) (s : State) : Result :=
  dpImm aluMvn c S rn rd rot imm s

/-- MVN, register shifted by an immediate (R245). -/
def execMvnShiftImm (c : Cond) (S : Bool) (rn rd : RegNo) (n : BitVec 5) (t : Shift) (rm : RegNo) (s : State) : Result :=
  dpShiftImm aluMvn c S rn rd n t rm s

/-- MVN, register shifted by a register (R245). -/
def execMvnShiftReg (c : Cond) (S : Bool) (rn rd rs : RegNo) (t : Shift) (rm : RegNo) (s : State) : Result :=
  dpShiftReg aluMvn c S rn rd rs t rm s

end Sys2Proof.Machine
end

