-- ==== Sys2Proof/Machine/LoadStore.lean ====
section
/-! DEFINITION. The ARM single transfers (R320..R329), the halfword and signed transfers (R330..R334) and the swaps
(R350, R351). -/

namespace Sys2Proof.Machine

/-- The immediate offset of F-A13 (R162). -/
def offImm (off : BitVec 12) : Word := off.setWidth 32

/-- The shifted register offset of F-A14 (R162): the shifter carry is discarded. -/
def State.offReg (s : State) (n : BitVec 5) (t : Shift) (rm : RegNo) : Word := (shiftImm t n (s.reg rm) s.cpsr.c).op2

/-- The offset of a halfword or signed transfer (R162, R330). -/
def State.offHalf (s : State) (off : HalfOff) : Word :=
  match off with
  | .imm hi lo => (hi ++ lo).setWidth 32
  | .reg _ rm => s.reg rm

/-- The address of a transfer (R320): the base with the offset applied before (P = 1), or the base itself. -/
def State.lsAddr (s : State) (p u : Bool) (rn : RegNo) (off : Word) : Word :=
  if p then addOffset u (s.reg rn) off else s.reg rn

/-- The writeback of a transfer (R321), after the memory access; `s0` is the state before the instruction. -/
def State.writeback (s s0 : State) (wb u : Bool) (rn : RegNo) (off : Word) : State :=
  if wb then s.setReg rn (addOffset u (s0.reg rn) off) else s

/-- A load (R321, R322, R330): the access, the writeback, then Rd, so a loaded base wins; one internal cycle (R832). -/
def State.load (s : State) (k : LoadKind) (p u wb : Bool) (rn rd : RegNo) (off : Word) : State :=
  let a := s.lsAddr p u rn off
  (((s.loadAccess k a).writeback s wb u rn off).setReg rd (s.loadValue k a)).internal 1

/-- A store (R321, R323, R330): the value is read before the writeback. -/
def State.storeAt (s : State) (k : StoreKind) (p u wb : Bool) (rn rd : RegNo) (off : Word) : State :=
  (s.store k (s.lsAddr p u rn off) (s.storeValue rd)).writeback s wb u rn off

/-- Writeback into R15 (R321). -/
def wbackCase (wb : Bool) (rn : RegNo) : UnpredCase × Bool := (.lsWbackPc, wb && rn == 15#4)

/-- A load instruction. -/
def runLoad (k : LoadKind) (c : Cond) (cases : List (UnpredCase × Bool)) (p u wb : Bool) (rn rd : RegNo) (off : Word)
    (s : State) : Result :=
  runArm c s (wbackCase wb rn :: cases) (s.load k p u wb rn rd off)

/-- A store instruction. -/
def runStore (k : StoreKind) (c : Cond) (cases : List (UnpredCase × Bool)) (p u wb : Bool) (rn rd : RegNo) (off : Word)
    (s : State) : Result :=
  runArm c s (wbackCase wb rn :: cases) (s.storeAt k p u wb rn rd off)

/-- LDRB into R15 (R324). -/
def byteCase (rd : RegNo) : UnpredCase × Bool := (.ldrbPc, rd == 15#4)

/-- A halfword or signed load into R15 (R331). -/
def halfCase (rd : RegNo) : UnpredCase × Bool := (.ldrhPc, rd == 15#4)

/-- A post-indexed halfword or signed transfer with W = 1 (R330). -/
def postCase (p w : Bool) : UnpredCase × Bool := (.lshPostW, !p && w)

/-- LDR, immediate offset, pre-indexed (R322). -/
def execLdrImmPre (c : Cond) (u w : Bool) (rn rd : RegNo) (off : BitVec 12) (s : State) : Result :=
  runLoad .word c [] true u w rn rd (offImm off) s

/-- LDR, immediate offset, post-indexed (R322). -/
def execLdrImmPost (c : Cond) (u : Bool) (rn rd : RegNo) (off : BitVec 12) (s : State) : Result :=
  runLoad .word c [] false u true rn rd (offImm off) s

/-- LDR, register offset, pre-indexed (R322). -/
def execLdrRegPre (c : Cond) (u w : Bool) (rn rd : RegNo) (n : BitVec 5) (t : Shift) (rm : RegNo) (s : State) : Result :=
  runLoad .word c [] true u w rn rd (s.offReg n t rm) s

/-- LDR, register offset, post-indexed (R322). -/
def execLdrRegPost (c : Cond) (u : Bool) (rn rd : RegNo) (n : BitVec 5) (t : Shift) (rm : RegNo) (s : State) : Result :=
  runLoad .word c [] false u true rn rd (s.offReg n t rm) s

/-- STR, immediate offset, pre-indexed (R323). -/
def execStrImmPre (c : Cond) (u w : Bool) (rn rd : RegNo) (off : BitVec 12) (s : State) : Result :=
  runStore .word c [] true u w rn rd (offImm off) s

/-- STR, immediate offset, post-indexed (R323). -/
def execStrImmPost (c : Cond) (u : Bool) (rn rd : RegNo) (off : BitVec 12) (s : State) : Result :=
  runStore .word c [] false u true rn rd (offImm off) s

/-- STR, register offset, pre-indexed (R323). -/
def execStrRegPre (c : Cond) (u w : Bool) (rn rd : RegNo) (n : BitVec 5) (t : Shift) (rm : RegNo) (s : State) : Result :=
  runStore .word c [] true u w rn rd (s.offReg n t rm) s

/-- STR, register offset, post-indexed (R323). -/
def execStrRegPost (c : Cond) (u : Bool) (rn rd : RegNo) (n : BitVec 5) (t : Shift) (rm : RegNo) (s : State) : Result :=
  runStore .word c [] false u true rn rd (s.offReg n t rm) s

/-- LDRB, immediate offset, pre-indexed (R324). -/
def execLdrbImmPre (c : Cond) (u w : Bool) (rn rd : RegNo) (off : BitVec 12) (s : State) : Result :=
  runLoad .byte c [byteCase rd] true u w rn rd (offImm off) s

/-- LDRB, immediate offset, post-indexed (R324). -/
def execLdrbImmPost (c : Cond) (u : Bool) (rn rd : RegNo) (off : BitVec 12) (s : State) : Result :=
  runLoad .byte c [byteCase rd] false u true rn rd (offImm off) s

/-- LDRB, register offset, pre-indexed (R324). -/
def execLdrbRegPre (c : Cond) (u w : Bool) (rn rd : RegNo) (n : BitVec 5) (t : Shift) (rm : RegNo) (s : State) : Result :=
  runLoad .byte c [byteCase rd] true u w rn rd (s.offReg n t rm) s

/-- LDRB, register offset, post-indexed (R324). -/
def execLdrbRegPost (c : Cond) (u : Bool) (rn rd : RegNo) (n : BitVec 5) (t : Shift) (rm : RegNo) (s : State) : Result :=
  runLoad .byte c [byteCase rd] false u true rn rd (s.offReg n t rm) s

/-- STRB, immediate offset, pre-indexed (R325). -/
def execStrbImmPre (c : Cond) (u w : Bool) (rn rd : RegNo) (off : BitVec 12) (s : State) : Result :=
  runStore .byte c [] true u w rn rd (offImm off) s

/-- STRB, immediate offset, post-indexed (R325). -/
def execStrbImmPost (c : Cond) (u : Bool) (rn rd : RegNo) (off : BitVec 12) (s : State) : Result :=
  runStore .byte c [] false u true rn rd (offImm off) s

/-- STRB, register offset, pre-indexed (R325). -/
def execStrbRegPre (c : Cond) (u w : Bool) (rn rd : RegNo) (n : BitVec 5) (t : Shift) (rm : RegNo) (s : State) : Result :=
  runStore .byte c [] true u w rn rd (s.offReg n t rm) s

/-- STRB, register offset, post-indexed (R325). -/
def execStrbRegPost (c : Cond) (u : Bool) (rn rd : RegNo) (n : BitVec 5) (t : Shift) (rm : RegNo) (s : State) : Result :=
  runStore .byte c [] false u true rn rd (s.offReg n t rm) s

/-- LDRT, immediate offset: the unprivileged access has no effect (R326). -/
def execLdrtImm (c : Cond) (u : Bool) (rn rd : RegNo) (off : BitVec 12) (s : State) : Result :=
  runLoad .word c [] false u true rn rd (offImm off) s

/-- LDRT, register offset: the unprivileged access has no effect (R326). -/
def execLdrtReg (c : Cond) (u : Bool) (rn rd : RegNo) (n : BitVec 5) (t : Shift) (rm : RegNo) (s : State) : Result :=
  runLoad .word c [] false u true rn rd (s.offReg n t rm) s

/-- STRT, immediate offset: the unprivileged access has no effect (R327). -/
def execStrtImm (c : Cond) (u : Bool) (rn rd : RegNo) (off : BitVec 12) (s : State) : Result :=
  runStore .word c [] false u true rn rd (offImm off) s

/-- STRT, register offset: the unprivileged access has no effect (R327). -/
def execStrtReg (c : Cond) (u : Bool) (rn rd : RegNo) (n : BitVec 5) (t : Shift) (rm : RegNo) (s : State) : Result :=
  runStore .word c [] false u true rn rd (s.offReg n t rm) s

/-- LDRBT, immediate offset: the unprivileged access has no effect (R328). -/
def execLdrbtImm (c : Cond) (u : Bool) (rn rd : RegNo) (off : BitVec 12) (s : State) : Result :=
  runLoad .byte c [byteCase rd] false u true rn rd (offImm off) s

/-- LDRBT, register offset: the unprivileged access has no effect (R328). -/
def execLdrbtReg (c : Cond) (u : Bool) (rn rd : RegNo) (n : BitVec 5) (t : Shift) (rm : RegNo) (s : State) : Result :=
  runLoad .byte c [byteCase rd] false u true rn rd (s.offReg n t rm) s

/-- STRBT, immediate offset: the unprivileged access has no effect (R329). -/
def execStrbtImm (c : Cond) (u : Bool) (rn rd : RegNo) (off : BitVec 12) (s : State) : Result :=
  runStore .byte c [] false u true rn rd (offImm off) s

/-- STRBT, register offset: the unprivileged access has no effect (R329). -/
def execStrbtReg (c : Cond) (u : Bool) (rn rd : RegNo) (n : BitVec 5) (t : Shift) (rm : RegNo) (s : State) : Result :=
  runStore .byte c [] false u true rn rd (s.offReg n t rm) s

/-- LDRH (R331). -/
def execLdrh (c : Cond) (p u w : Bool) (rn rd : RegNo) (off : HalfOff) (s : State) : Result :=
  runLoad .half c [halfCase rd, postCase p w] p u (!p || w) rn rd (s.offHalf off) s

/-- LDRSB (R333). -/
def execLdrsb (c : Cond) (p u w : Bool) (rn rd : RegNo) (off : HalfOff) (s : State) : Result :=
  runLoad .signedByte c [halfCase rd, postCase p w] p u (!p || w) rn rd (s.offHalf off) s

/-- LDRSH (R334). -/
def execLdrsh (c : Cond) (p u w : Bool) (rn rd : RegNo) (off : HalfOff) (s : State) : Result :=
  runLoad .signedHalf c [halfCase rd, postCase p w] p u (!p || w) rn rd (s.offHalf off) s

/-- STRH (R332). -/
def execStrh (c : Cond) (p u w : Bool) (rn rd : RegNo) (off : HalfOff) (s : State) : Result :=
  runStore .half c [postCase p w] p u (!p || w) rn rd (s.offHalf off) s

/-- SWP and SWPB (R350, R351): the read and the write with nothing between them, then Rd; one internal cycle. -/
def State.swap (s : State) (lk : LoadKind) (sk : StoreKind) (rn rd rm : RegNo) : State :=
  ((((s.loadAccess lk (s.reg rn)).store sk (s.reg rn) (s.reg rm)).setReg rd (s.loadValue lk (s.reg rn)))).internal 1

/-- R15 as any operand (R350). -/
def swapCase (rn rd rm : RegNo) : UnpredCase × Bool := (.swpPc, rn == 15#4 || rd == 15#4 || rm == 15#4)

/-- SWP (R350). -/
def execSwp (c : Cond) (rn rd : RegNo) (_x1 : BitVec 4) (rm : RegNo) (s : State) : Result :=
  runArm c s [swapCase rn rd rm] (s.swap .word .word rn rd rm)

/-- SWPB (R351). -/
def execSwpb (c : Cond) (rn rd : RegNo) (_x1 : BitVec 4) (rm : RegNo) (s : State) : Result :=
  runArm c s [swapCase rn rd rm] (s.swap .byte .byte rn rd rm)

end Sys2Proof.Machine
end

