-- ==== Sys2Proof/Machine/PsrMultiply.lean ====
section
/-! DEFINITION. MRS and MSR (R280..R283) and the ARM multiplies (R290..R296). -/

namespace Sys2Proof.Machine

/-- What MRS reads (R280): CPSR, the SPSR, or the fixed value where there is none. -/
def State.mrsValue (s : State) (R : Bool) : Word :=
  if R then
    (match s.spsr? with
     | some p => p.toWord
     | none => Config.spsrNoneValue)
  else s.cpsr.toWord

/-- The write of an MSR (R281). -/
def State.msrWrite (s : State) (R : Bool) (f : BitVec 4) (op : Word) : State :=
  if R then
    (match s.spsr? with
     | some p => { s with spsr := s.spsr.set s.cpsr.mode (p.msr f op) }
     | none => s)
  else { s with cpsr := s.cpsr.msr f op }

/-- An MSR that writes a mode that is no mode (R281). -/
def msrCase (R : Bool) (f : BitVec 4) (op : Word) (s : State) : UnpredCase × Bool :=
  (.cpsrBadMode, !R && f.getLsbD 0 && s.cpsr.mode.privileged && (Mode.ofCode (op.extractLsb' 0 5)).isNone)

/-- The result of MUL and MLA (R291, R292): with S = 1 N and Z are the result's, V is unchanged and C is MUL-C. -/
def State.mulWrite (s : State) (S : Bool) (rd : RegNo) (r : Word) : State :=
  let s1 := s.setReg rd r
  if S then ({ s1 with cpsr := s1.cpsr.setNZ r } : State).openC else s1

/-- The result of a long multiply (R293): RdLo is written before RdHi (R290); C is MUL-C and V is MULL-V. -/
def State.mullWrite (s : State) (S : Bool) (rdHi rdLo : RegNo) (x : BitVec 64) : State :=
  let s1 := (s.setReg rdLo (x.setWidth 32)).setReg rdHi (x.extractLsb' 32 32)
  if S then ({ s1 with cpsr := s1.cpsr.setNZ64 x } : State).openC.openV else s1

/-- RdHi:RdLo as an accumulator (R294). -/
def State.accumulator (s : State) (rdHi rdLo : RegNo) : BitVec 64 := s.reg rdHi ++ s.reg rdLo

/-- MUL-regs of the long forms (R290). -/
def mullCase (rdHi rdLo rs rm : RegNo) : UnpredCase × Bool :=
  (.mulRegs, rdHi == rdLo || rdHi == rm || rdLo == rm || rdHi == 15#4 || rdLo == 15#4 || rs == 15#4 || rm == 15#4)

/-- MRS (R280). -/
def execMrs (c : Cond) (R : Bool) (_x1 : BitVec 4) (rd : RegNo) (_x2 _x3 : BitVec 4) (s : State) : Result :=
  runArm c s [(.mrsRdPc, rd == 15#4)] (s.setReg rd (s.mrsValue R))

/-- MSR from a register (R282). -/
def execMsrReg (c : Cond) (R : Bool) (f _x1 _x2 : BitVec 4) (rm : RegNo) (s : State) : Result :=
  runArm c s [msrCase R f (s.reg rm) s] (s.msrWrite R f (s.reg rm))

/-- MSR from an immediate (R283). -/
def execMsrImm (c : Cond) (R : Bool) (f _x1 rot : BitVec 4) (imm : BitVec 8) (s : State) : Result :=
  runArm c s [msrCase R f (rotImm rot imm s.cpsr.c).op2 s] (s.msrWrite R f (rotImm rot imm s.cpsr.c).op2)

/-- MUL; the field Rn is ignored (R291). -/
def execMul (c : Cond) (S : Bool) (rd _rn rs rm : RegNo) (s : State) : Result :=
  runArm c s [(.mulRegs, rd == rm || rd == 15#4 || rs == 15#4 || rm == 15#4)]
    ((s.mulWrite S rd (s.reg rm * s.reg rs)).internal (mulCycles true (s.reg rs)))

/-- MLA (R292). -/
def execMla (c : Cond) (S : Bool) (rd rn rs rm : RegNo) (s : State) : Result :=
  runArm c s [(.mulRegs, rd == rm || rd == 15#4 || rn == 15#4 || rs == 15#4 || rm == 15#4)]
    ((s.mulWrite S rd (s.reg rm * s.reg rs + s.reg rn)).internal (mulCycles true (s.reg rs) + 1))

/-- UMULL (R293). -/
def execUmull (c : Cond) (S : Bool) (rdHi rdLo rs rm : RegNo) (s : State) : Result :=
  runArm c s [mullCase rdHi rdLo rs rm]
    ((s.mullWrite S rdHi rdLo (umulFull (s.reg rm) (s.reg rs))).internal (mulCycles false (s.reg rs) + 1))

/-- UMLAL (R294). -/
def execUmlal (c : Cond) (S : Bool) (rdHi rdLo rs rm : RegNo) (s : State) : Result :=
  runArm c s [mullCase rdHi rdLo rs rm]
    ((s.mullWrite S rdHi rdLo (umulFull (s.reg rm) (s.reg rs) + s.accumulator rdHi rdLo)).internal (mulCycles false (s.reg rs) + 2))

/-- SMULL (R295). -/
def execSmull (c : Cond) (S : Bool) (rdHi rdLo rs rm : RegNo) (s : State) : Result :=
  runArm c s [mullCase rdHi rdLo rs rm]
    ((s.mullWrite S rdHi rdLo (smulFull (s.reg rm) (s.reg rs))).internal (mulCycles true (s.reg rs) + 1))

/-- SMLAL (R296). -/
def execSmlal (c : Cond) (S : Bool) (rdHi rdLo rs rm : RegNo) (s : State) : Result :=
  runArm c s [mullCase rdHi rdLo rs rm]
    ((s.mullWrite S rdHi rdLo (smulFull (s.reg rm) (s.reg rs) + s.accumulator rdHi rdLo)).internal (mulCycles true (s.reg rs) + 2))

end Sys2Proof.Machine
end

