-- ==== Sys2Proof/Machine/ThumbAlu.lean ====
section
/-! DEFINITION. The THUMB arithmetic, logical and move instructions (R400..R438). -/

namespace Sys2Proof.Machine

/-- The result and the flags of a THUMB operation (R400..R426). -/
def State.tWrite (s : State) (rd : LowReg) (x : AluOut) : State := { s.setReg (lowReg rd) x.r with cpsr := x.p }

/-- A THUMB operand that goes through no shifter: C is unchanged by a logical operation. -/
def State.plainOp (s : State) (v : Word) : Shifted := ⟨v, s.cpsr.c⟩

/-- Format 1 (R400..R402). -/
def tShiftImm (t : Shift) (off : BitVec 5) (rs rd : LowReg) (s : State) : Result :=
  .next (s.tWrite rd (aluMov 0 (shiftImm t off (s.reg (lowReg rs)) s.cpsr.c) s.cpsr))

/-- An operation of `a` and `b` into Rd (formats 2, 3 and 4). -/
def tAlu (f : Alu) (rd : LowReg) (a b : Word) (s : State) : Result := .next (s.tWrite rd (f a (s.plainOp b) s.cpsr))

/-- An operation that writes the flags only (formats 3 and 4). -/
def tTest (f : Alu) (a b : Word) (s : State) : Result := .next { s with cpsr := (f a (s.plainOp b) s.cpsr).p }

/-- A shift of Rd by the low byte of Rs (R413..R415, R418): one internal cycle, as the ARM form (R832). -/
def tShiftReg (t : Shift) (rs rd : LowReg) (s : State) : Result :=
  .next ((s.tWrite rd (aluMov 0 (shiftReg t ((s.reg (lowReg rs)).setWidth 8) (s.reg (lowReg rd)) s.cpsr.c) s.cpsr)).internal 1)

/-- Format 5 with H1 = H2 = 0 (R429). -/
def hiCase (h1 h2 : Bool) : UnpredCase × Bool := (.tHiregLow, !h1 && !h2)

/-- THUMB LSL by an immediate (R400). -/
def execTLslImm (off : BitVec 5) (rs rd : LowReg) (s : State) : Result :=
  tShiftImm .lsl off rs rd s

/-- THUMB LSR by an immediate (R401). -/
def execTLsrImm (off : BitVec 5) (rs rd : LowReg) (s : State) : Result :=
  tShiftImm .lsr off rs rd s

/-- THUMB ASR by an immediate (R402). -/
def execTAsrImm (off : BitVec 5) (rs rd : LowReg) (s : State) : Result :=
  tShiftImm .asr off rs rd s

/-- THUMB ADD, register (R403). -/
def execTAddReg (rn rs rd : LowReg) (s : State) : Result :=
  tAlu aluAdd rd (s.reg (lowReg rs)) (s.reg (lowReg rn)) s

/-- THUMB SUB, register (R404). -/
def execTSubReg (rn rs rd : LowReg) (s : State) : Result :=
  tAlu aluSub rd (s.reg (lowReg rs)) (s.reg (lowReg rn)) s

/-- THUMB ADD, 3-bit immediate (R405). -/
def execTAddImm3 (imm : BitVec 3) (rs rd : LowReg) (s : State) : Result :=
  tAlu aluAdd rd (s.reg (lowReg rs)) (imm.setWidth 32) s

/-- THUMB SUB, 3-bit immediate (R406). -/
def execTSubImm3 (imm : BitVec 3) (rs rd : LowReg) (s : State) : Result :=
  tAlu aluSub rd (s.reg (lowReg rs)) (imm.setWidth 32) s

/-- THUMB MOV, 8-bit immediate (R407). -/
def execTMovImm8 (rd : LowReg) (imm : BitVec 8) (s : State) : Result :=
  tAlu aluMov rd 0 (imm.setWidth 32) s

/-- THUMB CMP, 8-bit immediate (R408). -/
def execTCmpImm8 (rd : LowReg) (imm : BitVec 8) (s : State) : Result :=
  tTest aluCmp (s.reg (lowReg rd)) (imm.setWidth 32) s

/-- THUMB ADD, 8-bit immediate (R409). -/
def execTAddImm8 (rd : LowReg) (imm : BitVec 8) (s : State) : Result :=
  tAlu aluAdd rd (s.reg (lowReg rd)) (imm.setWidth 32) s

/-- THUMB SUB, 8-bit immediate (R410). -/
def execTSubImm8 (rd : LowReg) (imm : BitVec 8) (s : State) : Result :=
  tAlu aluSub rd (s.reg (lowReg rd)) (imm.setWidth 32) s

/-- THUMB AND (R411). -/
def execTAnd (rs rd : LowReg) (s : State) : Result :=
  tAlu aluAnd rd (s.reg (lowReg rd)) (s.reg (lowReg rs)) s

/-- THUMB EOR (R412). -/
def execTEor (rs rd : LowReg) (s : State) : Result :=
  tAlu aluEor rd (s.reg (lowReg rd)) (s.reg (lowReg rs)) s

/-- THUMB ADC (R416). -/
def execTAdc (rs rd : LowReg) (s : State) : Result :=
  tAlu aluAdc rd (s.reg (lowReg rd)) (s.reg (lowReg rs)) s

/-- THUMB SBC (R417). -/
def execTSbc (rs rd : LowReg) (s : State) : Result :=
  tAlu aluSbc rd (s.reg (lowReg rd)) (s.reg (lowReg rs)) s

/-- THUMB ORR (R423). -/
def execTOrr (rs rd : LowReg) (s : State) : Result :=
  tAlu aluOrr rd (s.reg (lowReg rd)) (s.reg (lowReg rs)) s

/-- THUMB BIC (R425). -/
def execTBic (rs rd : LowReg) (s : State) : Result :=
  tAlu aluBic rd (s.reg (lowReg rd)) (s.reg (lowReg rs)) s

/-- THUMB MVN (R426). -/
def execTMvn (rs rd : LowReg) (s : State) : Result :=
  tAlu aluMvn rd (s.reg (lowReg rd)) (s.reg (lowReg rs)) s

/-- THUMB TST (R419). -/
def execTTst (rs rd : LowReg) (s : State) : Result :=
  tTest aluTst (s.reg (lowReg rd)) (s.reg (lowReg rs)) s

/-- THUMB CMP (R421). -/
def execTCmp (rs rd : LowReg) (s : State) : Result :=
  tTest aluCmp (s.reg (lowReg rd)) (s.reg (lowReg rs)) s

/-- THUMB CMN (R422). -/
def execTCmn (rs rd : LowReg) (s : State) : Result :=
  tTest aluCmn (s.reg (lowReg rd)) (s.reg (lowReg rs)) s

/-- THUMB LSL by a register (R413). -/
def execTLsl (rs rd : LowReg) (s : State) : Result :=
  tShiftReg .lsl rs rd s

/-- THUMB LSR by a register (R414). -/
def execTLsr (rs rd : LowReg) (s : State) : Result :=
  tShiftReg .lsr rs rd s

/-- THUMB ASR by a register (R415). -/
def execTAsr (rs rd : LowReg) (s : State) : Result :=
  tShiftReg .asr rs rd s

/-- THUMB ROR by a register (R418). -/
def execTRor (rs rd : LowReg) (s : State) : Result :=
  tShiftReg .ror rs rd s

/-- THUMB NEG: 0 - Rs (R420). -/
def execTNeg (rs rd : LowReg) (s : State) : Result :=
  tAlu aluRsb rd (s.reg (lowReg rs)) 0 s

/-- THUMB MUL: the old Rd counts the cycles (R424). -/
def execTMul (rs rd : LowReg) (s : State) : Result :=
  unpredIf [(.mulRegs, rd == rs)]
    ((s.mulWrite true (lowReg rd) (s.reg (lowReg rd) * s.reg (lowReg rs))).internal (mulCycles true (s.reg (lowReg rd))))

/-- THUMB ADD, high registers: no flags; R15 is a branch (R430). -/
def execTAddHi (h1 h2 : Bool) (rs rd : LowReg) (s : State) : Result :=
  unpredIf [hiCase h1 h2] (s.setReg (hiReg h1 rd) (s.reg (hiReg h1 rd) + s.reg (hiReg h2 rs)))

/-- THUMB CMP, high registers (R431). -/
def execTCmpHi (h1 h2 : Bool) (rs rd : LowReg) (s : State) : Result :=
  unpredIf [hiCase h1 h2] { s with cpsr := (aluCmp (s.reg (hiReg h1 rd)) (s.plainOp (s.reg (hiReg h2 rs))) s.cpsr).p }

/-- THUMB MOV, high registers: no flags; R15 is a branch (R432). -/
def execTMovHi (h1 h2 : Bool) (rs rd : LowReg) (s : State) : Result :=
  unpredIf [hiCase h1 h2] (s.setReg (hiReg h1 rd) (s.reg (hiReg h2 rs)))

/-- THUMB BX (R433). -/
def execTBx (h1 h2 : Bool) (rs : LowReg) (_x1 : BitVec 3) (s : State) : Result :=
  unpredIf [(.tBxH1, h1), bxCase (s.reg (hiReg h2 rs))] (s.branchExchange (s.reg (hiReg h2 rs)))

/-- THUMB ADD Rd, PC, #imm (R435). -/
def execTAddPc (rd : LowReg) (word8 : BitVec 8) (s : State) : Result :=
  .next (s.setReg (lowReg rd) (alignWord (s.reg 15#4) + (word8 ++ 0#2).setWidth 32))

/-- THUMB ADD Rd, SP, #imm (R436). -/
def execTAddSp (rd : LowReg) (word8 : BitVec 8) (s : State) : Result :=
  .next (s.setReg (lowReg rd) (s.reg 13#4 + (word8 ++ 0#2).setWidth 32))

/-- THUMB ADD SP, #imm (R437). -/
def execTAddSpImm (sword7 : BitVec 7) (s : State) : Result :=
  .next (s.setReg 13#4 (s.reg 13#4 + (sword7 ++ 0#2).setWidth 32))

/-- THUMB SUB SP, #imm (R438). -/
def execTSubSpImm (sword7 : BitVec 7) (s : State) : Result :=
  .next (s.setReg 13#4 (s.reg 13#4 - (sword7 ++ 0#2).setWidth 32))

end Sys2Proof.Machine
end

