-- ==== Sys2Proof/Machine/ThumbBranch.lean ====
section
/-! DEFINITION. The THUMB branches, SWI and the undefined spaces (R500..R506). -/

namespace Sys2Proof.Machine

/-- A conditional branch (R500): not taken, it has no effect. -/
def tBranchIf (c : Cond) (off : BitVec 8) (s : State) : Result :=
  .next (if condPassed c s.cpsr then s.branch (s.reg 15#4 + (off ++ 0#1).signExtend 32) else s)

/-- BEQ (R500). -/
def execTBEq (off : BitVec 8) (s : State) : Result :=
  tBranchIf .eq off s

/-- BNE (R500). -/
def execTBNe (off : BitVec 8) (s : State) : Result :=
  tBranchIf .ne off s

/-- BCS (R500). -/
def execTBCs (off : BitVec 8) (s : State) : Result :=
  tBranchIf .cs off s

/-- BCC (R500). -/
def execTBCc (off : BitVec 8) (s : State) : Result :=
  tBranchIf .cc off s

/-- BMI (R500). -/
def execTBMi (off : BitVec 8) (s : State) : Result :=
  tBranchIf .mi off s

/-- BPL (R500). -/
def execTBPl (off : BitVec 8) (s : State) : Result :=
  tBranchIf .pl off s

/-- BVS (R500). -/
def execTBVs (off : BitVec 8) (s : State) : Result :=
  tBranchIf .vs off s

/-- BVC (R500). -/
def execTBVc (off : BitVec 8) (s : State) : Result :=
  tBranchIf .vc off s

/-- BHI (R500). -/
def execTBHi (off : BitVec 8) (s : State) : Result :=
  tBranchIf .hi off s

/-- BLS (R500). -/
def execTBLs (off : BitVec 8) (s : State) : Result :=
  tBranchIf .ls off s

/-- BGE (R500). -/
def execTBGe (off : BitVec 8) (s : State) : Result :=
  tBranchIf .ge off s

/-- BLT (R500). -/
def execTBLt (off : BitVec 8) (s : State) : Result :=
  tBranchIf .lt off s

/-- BGT (R500). -/
def execTBGt (off : BitVec 8) (s : State) : Result :=
  tBranchIf .gt off s

/-- BLE (R500). -/
def execTBLe (off : BitVec 8) (s : State) : Result :=
  tBranchIf .le off s

/-- THUMB B (R502). -/
def execTB (off : BitVec 11) (s : State) : Result :=
  .next (s.branch (s.reg 15#4 + (off ++ 0#1).signExtend 32))

/-- THUMB SWI; the comment field is ignored (R501). -/
def execTSwi (_value : BitVec 8) (s : State) : Result :=
  .next s.raiseSwi

/-- BL, first half: writes LR only (R504). -/
def execTBlPrefix (off : BitVec 11) (s : State) : Result :=
  .next (s.setReg 14#4 (s.reg 15#4 + (off ++ 0#12).signExtend 32))

/-- BL, second half (R505). -/
def execTBlSuffix (off : BitVec 11) (s : State) : Result :=
  .next ((s.setReg 14#4 ((s.reg 15#4 - 2) ||| 1)).branch (s.reg 14#4 + (off ++ 0#1).setWidth 32))

/-- Undefined THUMB space T-U1a (R506). -/
def execTUndefU1a (_x1 : BitVec 8) (s : State) : Result :=
  .next s.raiseUndefined

/-- Undefined THUMB space T-U1b (R506). -/
def execTUndefU1b (_x1 : BitVec 9) (s : State) : Result :=
  .next s.raiseUndefined

/-- Undefined THUMB space T-U1c (R506). -/
def execTUndefU1c (_x1 : BitVec 9) (s : State) : Result :=
  .next s.raiseUndefined

/-- Undefined THUMB space T-U1d (R506). -/
def execTUndefU1d (_x1 : BitVec 10) (s : State) : Result :=
  .next s.raiseUndefined

/-- Undefined THUMB space T-U1e (R506). -/
def execTUndefU1e (_x1 : BitVec 9) (s : State) : Result :=
  .next s.raiseUndefined

/-- Undefined THUMB space T-U2 (R506). -/
def execTUndefU2 (_x1 : BitVec 8) (s : State) : Result :=
  .next s.raiseUndefined

/-- Undefined THUMB space T-U3 (R506). -/
def execTUndefU3 (_x1 : BitVec 11) (s : State) : Result :=
  .next s.raiseUndefined

end Sys2Proof.Machine
end

