-- ==== Sys2Proof/Machine/ThumbLoadStore.lean ====
section
/-! DEFINITION. The THUMB loads, stores and multiple transfers (R460..R484). -/

namespace Sys2Proof.Machine

/-- A THUMB load into Rd (R460, R464..R477): one internal cycle (R832). -/
def tLoad (k : LoadKind) (rd : LowReg) (a : Word) (s : State) : Result :=
  .next (((s.loadAccess k a).setReg (lowReg rd) (s.loadValue k a)).internal 1)

/-- A THUMB store of Rd (R462..R476). -/
def tStore (k : StoreKind) (rd : LowReg) (a : Word) (s : State) : Result := .next (s.store k a (s.reg (lowReg rd)))

/-- The address of formats 7 and 8 (R461). -/
def State.tRegAddr (s : State) (ro rb : LowReg) : Word := s.reg (lowReg rb) + s.reg (lowReg ro)

/-- The registers of PUSH and POP as one list (R480, R481): LR or PC joins the low registers. -/
def stackList (top : Bool) (topReg : Nat) (l : BitVec 8) : BitVec 16 :=
  l.setWidth 16 ||| (BitVec.ofBool top).setWidth 16 <<< topReg

/-- PUSH (R480, R484): an empty list stores A + 6 at SP - 0x40. -/
def State.tPush (s : State) (l : BitVec 16) : State :=
  let start := s.reg 13#4 - blockSize l
  (s.blockStore ((blockSlots (blockRegs l) start).map fun x => (x.1, x.2, s.storeValue x.1))).setReg 13#4 start

/-- POP (R481, R484): R15, when loaded, is a branch that keeps the instruction set; one internal cycle (R832). -/
def State.tPop (s : State) (l : BitVec 16) : State :=
  let slots := blockSlots (blockRegs l) (s.reg 13#4)
  let vals := s.blockLoad slots
  (((((s.blockReads slots).blockSet false vals).blockBranch false vals)).setReg 13#4 (s.reg 13#4 + blockSize l)).internal 1

/-- STMIA (R482, R484): as STM with increment after and writeback; R15, of an empty list, stores A + 6. -/
def State.tStmia (s : State) (rb : LowReg) (l : BitVec 16) : State := s.stm false true false true (lowReg rb) l

/-- LDMIA (R483, R484): as LDM with increment after and writeback. -/
def State.tLdmia (s : State) (rb : LowReg) (l : BitVec 16) : State := s.ldm false true false true (lowReg rb) l

/-- THUMB LDR, PC-relative (R460). -/
def execTLdrPc (rd : LowReg) (word8 : BitVec 8) (s : State) : Result :=
  tLoad .word rd (alignWord (s.reg 15#4) + (word8 ++ 0#2).setWidth 32) s

/-- THUMB STR, register offset (R462). -/
def execTStrReg (ro rb rd : LowReg) (s : State) : Result :=
  tStore .word rd (s.tRegAddr ro rb) s

/-- THUMB STRB, register offset (R463). -/
def execTStrbReg (ro rb rd : LowReg) (s : State) : Result :=
  tStore .byte rd (s.tRegAddr ro rb) s

/-- THUMB STRH, register offset (R466). -/
def execTStrhReg (ro rb rd : LowReg) (s : State) : Result :=
  tStore .half rd (s.tRegAddr ro rb) s

/-- THUMB LDR, register offset (R464). -/
def execTLdrReg (ro rb rd : LowReg) (s : State) : Result :=
  tLoad .word rd (s.tRegAddr ro rb) s

/-- THUMB LDRB, register offset (R465). -/
def execTLdrbReg (ro rb rd : LowReg) (s : State) : Result :=
  tLoad .byte rd (s.tRegAddr ro rb) s

/-- THUMB LDRH, register offset (R468). -/
def execTLdrhReg (ro rb rd : LowReg) (s : State) : Result :=
  tLoad .half rd (s.tRegAddr ro rb) s

/-- THUMB LDSB, register offset (R467). -/
def execTLdsbReg (ro rb rd : LowReg) (s : State) : Result :=
  tLoad .signedByte rd (s.tRegAddr ro rb) s

/-- THUMB LDSH, register offset (R469). -/
def execTLdshReg (ro rb rd : LowReg) (s : State) : Result :=
  tLoad .signedHalf rd (s.tRegAddr ro rb) s

/-- THUMB STR, immediate offset (R470). -/
def execTStrImm (off : BitVec 5) (rb rd : LowReg) (s : State) : Result :=
  tStore .word rd (s.reg (lowReg rb) + (off ++ 0#2).setWidth 32) s

/-- THUMB STRB, immediate offset (R472). -/
def execTStrbImm (off : BitVec 5) (rb rd : LowReg) (s : State) : Result :=
  tStore .byte rd (s.reg (lowReg rb) + off.setWidth 32) s

/-- THUMB STRH, immediate offset (R474). -/
def execTStrhImm (off : BitVec 5) (rb rd : LowReg) (s : State) : Result :=
  tStore .half rd (s.reg (lowReg rb) + (off ++ 0#1).setWidth 32) s

/-- THUMB LDR, immediate offset (R471). -/
def execTLdrImm (off : BitVec 5) (rb rd : LowReg) (s : State) : Result :=
  tLoad .word rd (s.reg (lowReg rb) + (off ++ 0#2).setWidth 32) s

/-- THUMB LDRB, immediate offset (R473). -/
def execTLdrbImm (off : BitVec 5) (rb rd : LowReg) (s : State) : Result :=
  tLoad .byte rd (s.reg (lowReg rb) + off.setWidth 32) s

/-- THUMB LDRH, immediate offset (R475). -/
def execTLdrhImm (off : BitVec 5) (rb rd : LowReg) (s : State) : Result :=
  tLoad .half rd (s.reg (lowReg rb) + (off ++ 0#1).setWidth 32) s

/-- THUMB STR, SP-relative (R476). -/
def execTStrSp (rd : LowReg) (word8 : BitVec 8) (s : State) : Result :=
  tStore .word rd (s.reg 13#4 + (word8 ++ 0#2).setWidth 32) s

/-- THUMB LDR, SP-relative (R477). -/
def execTLdrSp (rd : LowReg) (word8 : BitVec 8) (s : State) : Result :=
  tLoad .word rd (s.reg 13#4 + (word8 ++ 0#2).setWidth 32) s

/-- PUSH (R480). -/
def execTPush (R : Bool) (l : BitVec 8) (s : State) : Result :=
  unpredIf [(.tLdmStmEmpty, stackList R 14 l == 0)] (s.tPush (stackList R 14 l))

/-- POP (R481). -/
def execTPop (R : Bool) (l : BitVec 8) (s : State) : Result :=
  unpredIf [(.tLdmStmEmpty, stackList R 15 l == 0)] (s.tPop (stackList R 15 l))

/-- STMIA (R482). -/
def execTStmia (rb : LowReg) (l : BitVec 8) (s : State) : Result :=
  unpredIf [(.tLdmStmEmpty, l == 0),
      (.tStmBaseInList, inList (l.setWidth 16) (lowReg rb) && lowReg rb != lowestReg (l.setWidth 16))]
    (s.tStmia rb (l.setWidth 16))

/-- LDMIA (R483). -/
def execTLdmia (rb : LowReg) (l : BitVec 8) (s : State) : Result :=
  unpredIf [(.tLdmStmEmpty, l == 0), (.tLdmBaseInList, inList (l.setWidth 16) (lowReg rb))]
    (s.tLdmia rb (l.setWidth 16))

end Sys2Proof.Machine
end

