-- ==== Sys2Proof/Machine/Dispatch.lean ====
section
/-! DEFINITION. The dispatch of an instruction to its meaning: one arm for each constructor. -/

namespace Sys2Proof.Machine

def exec (i : Instr) (s : State) : Host.Outcome State Fault Refusal :=
  match i with
  | .andImm c S rn rd rot imm => Sys2Proof.Machine.execAndImm c S rn rd rot imm s
  | .andShiftImm c S rn rd n t rm => Sys2Proof.Machine.execAndShiftImm c S rn rd n t rm s
  | .andShiftReg c S rn rd rs t rm => Sys2Proof.Machine.execAndShiftReg c S rn rd rs t rm s
  | .eorImm c S rn rd rot imm => Sys2Proof.Machine.execEorImm c S rn rd rot imm s
  | .eorShiftImm c S rn rd n t rm => Sys2Proof.Machine.execEorShiftImm c S rn rd n t rm s
  | .eorShiftReg c S rn rd rs t rm => Sys2Proof.Machine.execEorShiftReg c S rn rd rs t rm s
  | .subImm c S rn rd rot imm => Sys2Proof.Machine.execSubImm c S rn rd rot imm s
  | .subShiftImm c S rn rd n t rm => Sys2Proof.Machine.execSubShiftImm c S rn rd n t rm s
  | .subShiftReg c S rn rd rs t rm => Sys2Proof.Machine.execSubShiftReg c S rn rd rs t rm s
  | .rsbImm c S rn rd rot imm => Sys2Proof.Machine.execRsbImm c S rn rd rot imm s
  | .rsbShiftImm c S rn rd n t rm => Sys2Proof.Machine.execRsbShiftImm c S rn rd n t rm s
  | .rsbShiftReg c S rn rd rs t rm => Sys2Proof.Machine.execRsbShiftReg c S rn rd rs t rm s
  | .addImm c S rn rd rot imm => Sys2Proof.Machine.execAddImm c S rn rd rot imm s
  | .addShiftImm c S rn rd n t rm => Sys2Proof.Machine.execAddShiftImm c S rn rd n t rm s
  | .addShiftReg c S rn rd rs t rm => Sys2Proof.Machine.execAddShiftReg c S rn rd rs t rm s
  | .adcImm c S rn rd rot imm => Sys2Proof.Machine.execAdcImm c S rn rd rot imm s
  | .adcShiftImm c S rn rd n t rm => Sys2Proof.Machine.execAdcShiftImm c S rn rd n t rm s
  | .adcShiftReg c S rn rd rs t rm => Sys2Proof.Machine.execAdcShiftReg c S rn rd rs t rm s
  | .sbcImm c S rn rd rot imm => Sys2Proof.Machine.execSbcImm c S rn rd rot imm s
  | .sbcShiftImm c S rn rd n t rm => Sys2Proof.Machine.execSbcShiftImm c S rn rd n t rm s
  | .sbcShiftReg c S rn rd rs t rm => Sys2Proof.Machine.execSbcShiftReg c S rn rd rs t rm s
  | .rscImm c S rn rd rot imm => Sys2Proof.Machine.execRscImm c S rn rd rot imm s
  | .rscShiftImm c S rn rd n t rm => Sys2Proof.Machine.execRscShiftImm c S rn rd n t rm s
  | .rscShiftReg c S rn rd rs t rm => Sys2Proof.Machine.execRscShiftReg c S rn rd rs t rm s
  | .tstImm c rn rd rot imm => Sys2Proof.Machine.execTstImm c rn rd rot imm s
  | .tstShiftImm c rn rd n t rm => Sys2Proof.Machine.execTstShiftImm c rn rd n t rm s
  | .tstShiftReg c rn rd rs t rm => Sys2Proof.Machine.execTstShiftReg c rn rd rs t rm s
  | .teqImm c rn rd rot imm => Sys2Proof.Machine.execTeqImm c rn rd rot imm s
  | .teqShiftImm c rn rd n t rm => Sys2Proof.Machine.execTeqShiftImm c rn rd n t rm s
  | .teqShiftReg c rn rd rs t rm => Sys2Proof.Machine.execTeqShiftReg c rn rd rs t rm s
  | .cmpImm c rn rd rot imm => Sys2Proof.Machine.execCmpImm c rn rd rot imm s
  | .cmpShiftImm c rn rd n t rm => Sys2Proof.Machine.execCmpShiftImm c rn rd n t rm s
  | .cmpShiftReg c rn rd rs t rm => Sys2Proof.Machine.execCmpShiftReg c rn rd rs t rm s
  | .cmnImm c rn rd rot imm => Sys2Proof.Machine.execCmnImm c rn rd rot imm s
  | .cmnShiftImm c rn rd n t rm => Sys2Proof.Machine.execCmnShiftImm c rn rd n t rm s
  | .cmnShiftReg c rn rd rs t rm => Sys2Proof.Machine.execCmnShiftReg c rn rd rs t rm s
  | .orrImm c S rn rd rot imm => Sys2Proof.Machine.execOrrImm c S rn rd rot imm s
  | .orrShiftImm c S rn rd n t rm => Sys2Proof.Machine.execOrrShiftImm c S rn rd n t rm s
  | .orrShiftReg c S rn rd rs t rm => Sys2Proof.Machine.execOrrShiftReg c S rn rd rs t rm s
  | .movImm c S rn rd rot imm => Sys2Proof.Machine.execMovImm c S rn rd rot imm s
  | .movShiftImm c S rn rd n t rm => Sys2Proof.Machine.execMovShiftImm c S rn rd n t rm s
  | .movShiftReg c S rn rd rs t rm => Sys2Proof.Machine.execMovShiftReg c S rn rd rs t rm s
  | .bicImm c S rn rd rot imm => Sys2Proof.Machine.execBicImm c S rn rd rot imm s
  | .bicShiftImm c S rn rd n t rm => Sys2Proof.Machine.execBicShiftImm c S rn rd n t rm s
  | .bicShiftReg c S rn rd rs t rm => Sys2Proof.Machine.execBicShiftReg c S rn rd rs t rm s
  | .mvnImm c S rn rd rot imm => Sys2Proof.Machine.execMvnImm c S rn rd rot imm s
  | .mvnShiftImm c S rn rd n t rm => Sys2Proof.Machine.execMvnShiftImm c S rn rd n t rm s
  | .mvnShiftReg c S rn rd rs t rm => Sys2Proof.Machine.execMvnShiftReg c S rn rd rs t rm s
  | .mrs c R x1 rd x2 x3 => Sys2Proof.Machine.execMrs c R x1 rd x2 x3 s
  | .msrReg c R f x1 x2 rm => Sys2Proof.Machine.execMsrReg c R f x1 x2 rm s
  | .msrImm c R f x1 rot imm => Sys2Proof.Machine.execMsrImm c R f x1 rot imm s
  | .bx c x1 rm => Sys2Proof.Machine.execBx c x1 rm s
  | .mul c S rd rn rs rm => Sys2Proof.Machine.execMul c S rd rn rs rm s
  | .mla c S rd rn rs rm => Sys2Proof.Machine.execMla c S rd rn rs rm s
  | .umull c S rdHi rdLo rs rm => Sys2Proof.Machine.execUmull c S rdHi rdLo rs rm s
  | .umlal c S rdHi rdLo rs rm => Sys2Proof.Machine.execUmlal c S rdHi rdLo rs rm s
  | .smull c S rdHi rdLo rs rm => Sys2Proof.Machine.execSmull c S rdHi rdLo rs rm s
  | .smlal c S rdHi rdLo rs rm => Sys2Proof.Machine.execSmlal c S rdHi rdLo rs rm s
  | .swp c rn rd x1 rm => Sys2Proof.Machine.execSwp c rn rd x1 rm s
  | .swpb c rn rd x1 rm => Sys2Proof.Machine.execSwpb c rn rd x1 rm s
  | .undefU1 c op x1 x2 => Sys2Proof.Machine.execUndefU1 c op x1 x2 s
  | .strh c p u w rn rd off => Sys2Proof.Machine.execStrh c p u w rn rd off s
  | .ldrh c p u w rn rd off => Sys2Proof.Machine.execLdrh c p u w rn rd off s
  | .ldrsb c p u w rn rd off => Sys2Proof.Machine.execLdrsb c p u w rn rd off s
  | .ldrsh c p u w rn rd off => Sys2Proof.Machine.execLdrsh c p u w rn rd off s
  | .undefU2 c op x1 h x2 => Sys2Proof.Machine.execUndefU2 c op x1 h x2 s
  | .undefU3 c op x1 lo x2 => Sys2Proof.Machine.execUndefU3 c op x1 lo x2 s
  | .undefU4 c R x1 => Sys2Proof.Machine.execUndefU4 c R x1 s
  | .ldrImmPre c u w rn rd off => Sys2Proof.Machine.execLdrImmPre c u w rn rd off s
  | .ldrImmPost c u rn rd off => Sys2Proof.Machine.execLdrImmPost c u rn rd off s
  | .ldrRegPre c u w rn rd n t rm => Sys2Proof.Machine.execLdrRegPre c u w rn rd n t rm s
  | .ldrRegPost c u rn rd n t rm => Sys2Proof.Machine.execLdrRegPost c u rn rd n t rm s
  | .strImmPre c u w rn rd off => Sys2Proof.Machine.execStrImmPre c u w rn rd off s
  | .strImmPost c u rn rd off => Sys2Proof.Machine.execStrImmPost c u rn rd off s
  | .strRegPre c u w rn rd n t rm => Sys2Proof.Machine.execStrRegPre c u w rn rd n t rm s
  | .strRegPost c u rn rd n t rm => Sys2Proof.Machine.execStrRegPost c u rn rd n t rm s
  | .ldrbImmPre c u w rn rd off => Sys2Proof.Machine.execLdrbImmPre c u w rn rd off s
  | .ldrbImmPost c u rn rd off => Sys2Proof.Machine.execLdrbImmPost c u rn rd off s
  | .ldrbRegPre c u w rn rd n t rm => Sys2Proof.Machine.execLdrbRegPre c u w rn rd n t rm s
  | .ldrbRegPost c u rn rd n t rm => Sys2Proof.Machine.execLdrbRegPost c u rn rd n t rm s
  | .strbImmPre c u w rn rd off => Sys2Proof.Machine.execStrbImmPre c u w rn rd off s
  | .strbImmPost c u rn rd off => Sys2Proof.Machine.execStrbImmPost c u rn rd off s
  | .strbRegPre c u w rn rd n t rm => Sys2Proof.Machine.execStrbRegPre c u w rn rd n t rm s
  | .strbRegPost c u rn rd n t rm => Sys2Proof.Machine.execStrbRegPost c u rn rd n t rm s
  | .ldrtImm c u rn rd off => Sys2Proof.Machine.execLdrtImm c u rn rd off s
  | .ldrtReg c u rn rd n t rm => Sys2Proof.Machine.execLdrtReg c u rn rd n t rm s
  | .strtImm c u rn rd off => Sys2Proof.Machine.execStrtImm c u rn rd off s
  | .strtReg c u rn rd n t rm => Sys2Proof.Machine.execStrtReg c u rn rd n t rm s
  | .ldrbtImm c u rn rd off => Sys2Proof.Machine.execLdrbtImm c u rn rd off s
  | .ldrbtReg c u rn rd n t rm => Sys2Proof.Machine.execLdrbtReg c u rn rd n t rm s
  | .strbtImm c u rn rd off => Sys2Proof.Machine.execStrbtImm c u rn rd off s
  | .strbtReg c u rn rd n t rm => Sys2Proof.Machine.execStrbtReg c u rn rd n t rm s
  | .undefU5 c x1 x2 => Sys2Proof.Machine.execUndefU5 c x1 x2 s
  | .ldm c p u S w rn l => Sys2Proof.Machine.execLdm c p u S w rn l s
  | .stm c p u S w rn l => Sys2Proof.Machine.execStm c p u S w rn l s
  | .b c off => Sys2Proof.Machine.execB c off s
  | .bl c off => Sys2Proof.Machine.execBl c off s
  | .ldc c p u n w rn crd cp off => Sys2Proof.Machine.execLdc c p u n w rn crd cp off s
  | .stc c p u n w rn crd cp off => Sys2Proof.Machine.execStc c p u n w rn crd cp off s
  | .cdp c opc crn crd cp info crm => Sys2Proof.Machine.execCdp c opc crn crd cp info crm s
  | .mcr c opc crn rd cp info crm => Sys2Proof.Machine.execMcr c opc crn rd cp info crm s
  | .mrc c opc crn rd cp info crm => Sys2Proof.Machine.execMrc c opc crn rd cp info crm s
  | .swi c comment => Sys2Proof.Machine.execSwi c comment s
  | .tLslImm off rs rd => Sys2Proof.Machine.execTLslImm off rs rd s
  | .tLsrImm off rs rd => Sys2Proof.Machine.execTLsrImm off rs rd s
  | .tAsrImm off rs rd => Sys2Proof.Machine.execTAsrImm off rs rd s
  | .tAddReg rn rs rd => Sys2Proof.Machine.execTAddReg rn rs rd s
  | .tSubReg rn rs rd => Sys2Proof.Machine.execTSubReg rn rs rd s
  | .tAddImm3 imm rs rd => Sys2Proof.Machine.execTAddImm3 imm rs rd s
  | .tSubImm3 imm rs rd => Sys2Proof.Machine.execTSubImm3 imm rs rd s
  | .tMovImm8 rd imm => Sys2Proof.Machine.execTMovImm8 rd imm s
  | .tCmpImm8 rd imm => Sys2Proof.Machine.execTCmpImm8 rd imm s
  | .tAddImm8 rd imm => Sys2Proof.Machine.execTAddImm8 rd imm s
  | .tSubImm8 rd imm => Sys2Proof.Machine.execTSubImm8 rd imm s
  | .tAnd rs rd => Sys2Proof.Machine.execTAnd rs rd s
  | .tEor rs rd => Sys2Proof.Machine.execTEor rs rd s
  | .tLsl rs rd => Sys2Proof.Machine.execTLsl rs rd s
  | .tLsr rs rd => Sys2Proof.Machine.execTLsr rs rd s
  | .tAsr rs rd => Sys2Proof.Machine.execTAsr rs rd s
  | .tAdc rs rd => Sys2Proof.Machine.execTAdc rs rd s
  | .tSbc rs rd => Sys2Proof.Machine.execTSbc rs rd s
  | .tRor rs rd => Sys2Proof.Machine.execTRor rs rd s
  | .tTst rs rd => Sys2Proof.Machine.execTTst rs rd s
  | .tNeg rs rd => Sys2Proof.Machine.execTNeg rs rd s
  | .tCmp rs rd => Sys2Proof.Machine.execTCmp rs rd s
  | .tCmn rs rd => Sys2Proof.Machine.execTCmn rs rd s
  | .tOrr rs rd => Sys2Proof.Machine.execTOrr rs rd s
  | .tMul rs rd => Sys2Proof.Machine.execTMul rs rd s
  | .tBic rs rd => Sys2Proof.Machine.execTBic rs rd s
  | .tMvn rs rd => Sys2Proof.Machine.execTMvn rs rd s
  | .tAddHi h1 h2 rs rd => Sys2Proof.Machine.execTAddHi h1 h2 rs rd s
  | .tCmpHi h1 h2 rs rd => Sys2Proof.Machine.execTCmpHi h1 h2 rs rd s
  | .tMovHi h1 h2 rs rd => Sys2Proof.Machine.execTMovHi h1 h2 rs rd s
  | .tBx h1 h2 rs x1 => Sys2Proof.Machine.execTBx h1 h2 rs x1 s
  | .tLdrPc rd word8 => Sys2Proof.Machine.execTLdrPc rd word8 s
  | .tStrReg ro rb rd => Sys2Proof.Machine.execTStrReg ro rb rd s
  | .tStrbReg ro rb rd => Sys2Proof.Machine.execTStrbReg ro rb rd s
  | .tLdrReg ro rb rd => Sys2Proof.Machine.execTLdrReg ro rb rd s
  | .tLdrbReg ro rb rd => Sys2Proof.Machine.execTLdrbReg ro rb rd s
  | .tStrhReg ro rb rd => Sys2Proof.Machine.execTStrhReg ro rb rd s
  | .tLdsbReg ro rb rd => Sys2Proof.Machine.execTLdsbReg ro rb rd s
  | .tLdrhReg ro rb rd => Sys2Proof.Machine.execTLdrhReg ro rb rd s
  | .tLdshReg ro rb rd => Sys2Proof.Machine.execTLdshReg ro rb rd s
  | .tStrImm off rb rd => Sys2Proof.Machine.execTStrImm off rb rd s
  | .tLdrImm off rb rd => Sys2Proof.Machine.execTLdrImm off rb rd s
  | .tStrbImm off rb rd => Sys2Proof.Machine.execTStrbImm off rb rd s
  | .tLdrbImm off rb rd => Sys2Proof.Machine.execTLdrbImm off rb rd s
  | .tStrhImm off rb rd => Sys2Proof.Machine.execTStrhImm off rb rd s
  | .tLdrhImm off rb rd => Sys2Proof.Machine.execTLdrhImm off rb rd s
  | .tStrSp rd word8 => Sys2Proof.Machine.execTStrSp rd word8 s
  | .tLdrSp rd word8 => Sys2Proof.Machine.execTLdrSp rd word8 s
  | .tAddPc rd word8 => Sys2Proof.Machine.execTAddPc rd word8 s
  | .tAddSp rd word8 => Sys2Proof.Machine.execTAddSp rd word8 s
  | .tAddSpImm sword7 => Sys2Proof.Machine.execTAddSpImm sword7 s
  | .tSubSpImm sword7 => Sys2Proof.Machine.execTSubSpImm sword7 s
  | .tPush R l => Sys2Proof.Machine.execTPush R l s
  | .tPop R l => Sys2Proof.Machine.execTPop R l s
  | .tUndefU1a x1 => Sys2Proof.Machine.execTUndefU1a x1 s
  | .tUndefU1b x1 => Sys2Proof.Machine.execTUndefU1b x1 s
  | .tUndefU1c x1 => Sys2Proof.Machine.execTUndefU1c x1 s
  | .tUndefU1d x1 => Sys2Proof.Machine.execTUndefU1d x1 s
  | .tUndefU1e x1 => Sys2Proof.Machine.execTUndefU1e x1 s
  | .tStmia rb l => Sys2Proof.Machine.execTStmia rb l s
  | .tLdmia rb l => Sys2Proof.Machine.execTLdmia rb l s
  | .tBEq off => Sys2Proof.Machine.execTBEq off s
  | .tBNe off => Sys2Proof.Machine.execTBNe off s
  | .tBCs off => Sys2Proof.Machine.execTBCs off s
  | .tBCc off => Sys2Proof.Machine.execTBCc off s
  | .tBMi off => Sys2Proof.Machine.execTBMi off s
  | .tBPl off => Sys2Proof.Machine.execTBPl off s
  | .tBVs off => Sys2Proof.Machine.execTBVs off s
  | .tBVc off => Sys2Proof.Machine.execTBVc off s
  | .tBHi off => Sys2Proof.Machine.execTBHi off s
  | .tBLs off => Sys2Proof.Machine.execTBLs off s
  | .tBGe off => Sys2Proof.Machine.execTBGe off s
  | .tBLt off => Sys2Proof.Machine.execTBLt off s
  | .tBGt off => Sys2Proof.Machine.execTBGt off s
  | .tBLe off => Sys2Proof.Machine.execTBLe off s
  | .tUndefU2 x1 => Sys2Proof.Machine.execTUndefU2 x1 s
  | .tSwi value => Sys2Proof.Machine.execTSwi value s
  | .tB off => Sys2Proof.Machine.execTB off s
  | .tUndefU3 x1 => Sys2Proof.Machine.execTUndefU3 x1 s
  | .tBlPrefix off => Sys2Proof.Machine.execTBlPrefix off s
  | .tBlSuffix off => Sys2Proof.Machine.execTBlSuffix off s

end Sys2Proof.Machine
end

