-- ==== Sys2Proof/Machine/RegisterUse.lean ====
section
/-! DEFINITION. Which registers an instruction reads or writes as operands, for LDM-S-user-next (R343, R826), which
only the policy `strict` looks at. Log entry 13. -/

namespace Sys2Proof.Machine

/-- The register of a halfword offset (R151). -/
def offsetRegisters : HalfOff → List RegNo
  | .imm _ _ => []
  | .reg _ rm => [rm]

/-- The registers an instruction names, and those its rule names for it (SP, LR). -/
def namedRegisters : Instr → List RegNo
  | .andImm _ _ rn rd _ _ => [rn, rd]
  | .andShiftImm _ _ rn rd _ _ rm => [rn, rd, rm]
  | .andShiftReg _ _ rn rd rs _ rm => [rn, rd, rs, rm]
  | .eorImm _ _ rn rd _ _ => [rn, rd]
  | .eorShiftImm _ _ rn rd _ _ rm => [rn, rd, rm]
  | .eorShiftReg _ _ rn rd rs _ rm => [rn, rd, rs, rm]
  | .subImm _ _ rn rd _ _ => [rn, rd]
  | .subShiftImm _ _ rn rd _ _ rm => [rn, rd, rm]
  | .subShiftReg _ _ rn rd rs _ rm => [rn, rd, rs, rm]
  | .rsbImm _ _ rn rd _ _ => [rn, rd]
  | .rsbShiftImm _ _ rn rd _ _ rm => [rn, rd, rm]
  | .rsbShiftReg _ _ rn rd rs _ rm => [rn, rd, rs, rm]
  | .addImm _ _ rn rd _ _ => [rn, rd]
  | .addShiftImm _ _ rn rd _ _ rm => [rn, rd, rm]
  | .addShiftReg _ _ rn rd rs _ rm => [rn, rd, rs, rm]
  | .adcImm _ _ rn rd _ _ => [rn, rd]
  | .adcShiftImm _ _ rn rd _ _ rm => [rn, rd, rm]
  | .adcShiftReg _ _ rn rd rs _ rm => [rn, rd, rs, rm]
  | .sbcImm _ _ rn rd _ _ => [rn, rd]
  | .sbcShiftImm _ _ rn rd _ _ rm => [rn, rd, rm]
  | .sbcShiftReg _ _ rn rd rs _ rm => [rn, rd, rs, rm]
  | .rscImm _ _ rn rd _ _ => [rn, rd]
  | .rscShiftImm _ _ rn rd _ _ rm => [rn, rd, rm]
  | .rscShiftReg _ _ rn rd rs _ rm => [rn, rd, rs, rm]
  | .tstImm _ rn _ _ _ => [rn]
  | .tstShiftImm _ rn _ _ _ rm => [rn, rm]
  | .tstShiftReg _ rn _ rs _ rm => [rn, rs, rm]
  | .teqImm _ rn _ _ _ => [rn]
  | .teqShiftImm _ rn _ _ _ rm => [rn, rm]
  | .teqShiftReg _ rn _ rs _ rm => [rn, rs, rm]
  | .cmpImm _ rn _ _ _ => [rn]
  | .cmpShiftImm _ rn _ _ _ rm => [rn, rm]
  | .cmpShiftReg _ rn _ rs _ rm => [rn, rs, rm]
  | .cmnImm _ rn _ _ _ => [rn]
  | .cmnShiftImm _ rn _ _ _ rm => [rn, rm]
  | .cmnShiftReg _ rn _ rs _ rm => [rn, rs, rm]
  | .orrImm _ _ rn rd _ _ => [rn, rd]
  | .orrShiftImm _ _ rn rd _ _ rm => [rn, rd, rm]
  | .orrShiftReg _ _ rn rd rs _ rm => [rn, rd, rs, rm]
  | .movImm _ _ _ rd _ _ => [rd]
  | .movShiftImm _ _ _ rd _ _ rm => [rd, rm]
  | .movShiftReg _ _ _ rd rs _ rm => [rd, rs, rm]
  | .bicImm _ _ rn rd _ _ => [rn, rd]
  | .bicShiftImm _ _ rn rd _ _ rm => [rn, rd, rm]
  | .bicShiftReg _ _ rn rd rs _ rm => [rn, rd, rs, rm]
  | .mvnImm _ _ _ rd _ _ => [rd]
  | .mvnShiftImm _ _ _ rd _ _ rm => [rd, rm]
  | .mvnShiftReg _ _ _ rd rs _ rm => [rd, rs, rm]
  | .mrs _ _ _ rd _ _ => [rd]
  | .msrReg _ _ _ _ _ rm => [rm]
  | .msrImm _ _ _ _ _ _ => []
  | .bx _ _ rm => [rm]
  | .mul _ _ rd _ rs rm => [rd, rs, rm]
  | .mla _ _ rd rn rs rm => [rd, rn, rs, rm]
  | .umull _ _ rdHi rdLo rs rm => [rdHi, rdLo, rs, rm]
  | .umlal _ _ rdHi rdLo rs rm => [rdHi, rdLo, rs, rm]
  | .smull _ _ rdHi rdLo rs rm => [rdHi, rdLo, rs, rm]
  | .smlal _ _ rdHi rdLo rs rm => [rdHi, rdLo, rs, rm]
  | .swp _ rn rd _ rm => [rn, rd, rm]
  | .swpb _ rn rd _ rm => [rn, rd, rm]
  | .undefU1 _ _ _ _ => [14#4]
  | .strh _ _ _ _ rn rd off => [rn, rd] ++ offsetRegisters off
  | .ldrh _ _ _ _ rn rd off => [rn, rd] ++ offsetRegisters off
  | .ldrsb _ _ _ _ rn rd off => [rn, rd] ++ offsetRegisters off
  | .ldrsh _ _ _ _ rn rd off => [rn, rd] ++ offsetRegisters off
  | .undefU2 _ _ _ _ _ => [14#4]
  | .undefU3 _ _ _ _ _ => [14#4]
  | .undefU4 _ _ _ => [14#4]
  | .ldrImmPre _ _ _ rn rd _ => [rn, rd]
  | .ldrImmPost _ _ rn rd _ => [rn, rd]
  | .ldrRegPre _ _ _ rn rd _ _ rm => [rn, rd, rm]
  | .ldrRegPost _ _ rn rd _ _ rm => [rn, rd, rm]
  | .strImmPre _ _ _ rn rd _ => [rn, rd]
  | .strImmPost _ _ rn rd _ => [rn, rd]
  | .strRegPre _ _ _ rn rd _ _ rm => [rn, rd, rm]
  | .strRegPost _ _ rn rd _ _ rm => [rn, rd, rm]
  | .ldrbImmPre _ _ _ rn rd _ => [rn, rd]
  | .ldrbImmPost _ _ rn rd _ => [rn, rd]
  | .ldrbRegPre _ _ _ rn rd _ _ rm => [rn, rd, rm]
  | .ldrbRegPost _ _ rn rd _ _ rm => [rn, rd, rm]
  | .strbImmPre _ _ _ rn rd _ => [rn, rd]
  | .strbImmPost _ _ rn rd _ => [rn, rd]
  | .strbRegPre _ _ _ rn rd _ _ rm => [rn, rd, rm]
  | .strbRegPost _ _ rn rd _ _ rm => [rn, rd, rm]
  | .ldrtImm _ _ rn rd _ => [rn, rd]
  | .ldrtReg _ _ rn rd _ _ rm => [rn, rd, rm]
  | .strtImm _ _ rn rd _ => [rn, rd]
  | .strtReg _ _ rn rd _ _ rm => [rn, rd, rm]
  | .ldrbtImm _ _ rn rd _ => [rn, rd]
  | .ldrbtReg _ _ rn rd _ _ rm => [rn, rd, rm]
  | .strbtImm _ _ rn rd _ => [rn, rd]
  | .strbtReg _ _ rn rd _ _ rm => [rn, rd, rm]
  | .undefU5 _ _ _ => [14#4]
  | .ldm _ _ _ _ _ rn l => [rn] ++ blockRegs l
  | .stm _ _ _ _ _ rn l => [rn] ++ blockRegs l
  | .b _ _ => []
  | .bl _ _ => [14#4]
  | .ldc _ _ _ _ _ _ _ _ _ => [14#4]
  | .stc _ _ _ _ _ _ _ _ _ => [14#4]
  | .cdp _ _ _ _ _ _ _ => [14#4]
  | .mcr _ _ _ _ _ _ _ => [14#4]
  | .mrc _ _ _ _ _ _ _ => [14#4]
  | .swi _ _ => [14#4]
  | .tLslImm _ rs rd => [lowReg rs, lowReg rd]
  | .tLsrImm _ rs rd => [lowReg rs, lowReg rd]
  | .tAsrImm _ rs rd => [lowReg rs, lowReg rd]
  | .tAddReg rn rs rd => [lowReg rn, lowReg rs, lowReg rd]
  | .tSubReg rn rs rd => [lowReg rn, lowReg rs, lowReg rd]
  | .tAddImm3 _ rs rd => [lowReg rs, lowReg rd]
  | .tSubImm3 _ rs rd => [lowReg rs, lowReg rd]
  | .tMovImm8 rd _ => [lowReg rd]
  | .tCmpImm8 rd _ => [lowReg rd]
  | .tAddImm8 rd _ => [lowReg rd]
  | .tSubImm8 rd _ => [lowReg rd]
  | .tAnd rs rd => [lowReg rs, lowReg rd]
  | .tEor rs rd => [lowReg rs, lowReg rd]
  | .tLsl rs rd => [lowReg rs, lowReg rd]
  | .tLsr rs rd => [lowReg rs, lowReg rd]
  | .tAsr rs rd => [lowReg rs, lowReg rd]
  | .tAdc rs rd => [lowReg rs, lowReg rd]
  | .tSbc rs rd => [lowReg rs, lowReg rd]
  | .tRor rs rd => [lowReg rs, lowReg rd]
  | .tTst rs rd => [lowReg rs, lowReg rd]
  | .tNeg rs rd => [lowReg rs, lowReg rd]
  | .tCmp rs rd => [lowReg rs, lowReg rd]
  | .tCmn rs rd => [lowReg rs, lowReg rd]
  | .tOrr rs rd => [lowReg rs, lowReg rd]
  | .tMul rs rd => [lowReg rs, lowReg rd]
  | .tBic rs rd => [lowReg rs, lowReg rd]
  | .tMvn rs rd => [lowReg rs, lowReg rd]
  | .tAddHi h1 h2 rs rd => [hiReg h2 rs, hiReg h1 rd]
  | .tCmpHi h1 h2 rs rd => [hiReg h2 rs, hiReg h1 rd]
  | .tMovHi h1 h2 rs rd => [hiReg h2 rs, hiReg h1 rd]
  | .tBx _ h2 rs _ => [hiReg h2 rs]
  | .tLdrPc rd _ => [lowReg rd]
  | .tStrReg ro rb rd => [lowReg ro, lowReg rb, lowReg rd]
  | .tStrbReg ro rb rd => [lowReg ro, lowReg rb, lowReg rd]
  | .tLdrReg ro rb rd => [lowReg ro, lowReg rb, lowReg rd]
  | .tLdrbReg ro rb rd => [lowReg ro, lowReg rb, lowReg rd]
  | .tStrhReg ro rb rd => [lowReg ro, lowReg rb, lowReg rd]
  | .tLdsbReg ro rb rd => [lowReg ro, lowReg rb, lowReg rd]
  | .tLdrhReg ro rb rd => [lowReg ro, lowReg rb, lowReg rd]
  | .tLdshReg ro rb rd => [lowReg ro, lowReg rb, lowReg rd]
  | .tStrImm _ rb rd => [lowReg rb, lowReg rd]
  | .tLdrImm _ rb rd => [lowReg rb, lowReg rd]
  | .tStrbImm _ rb rd => [lowReg rb, lowReg rd]
  | .tLdrbImm _ rb rd => [lowReg rb, lowReg rd]
  | .tStrhImm _ rb rd => [lowReg rb, lowReg rd]
  | .tLdrhImm _ rb rd => [lowReg rb, lowReg rd]
  | .tStrSp rd _ => [13#4, lowReg rd]
  | .tLdrSp rd _ => [13#4, lowReg rd]
  | .tAddPc rd _ => [lowReg rd]
  | .tAddSp rd _ => [13#4, lowReg rd]
  | .tAddSpImm _ => [13#4]
  | .tSubSpImm _ => [13#4]
  | .tPush R l => [13#4] ++ blockRegs (stackList R 14 l)
  | .tPop R l => [13#4] ++ blockRegs (stackList R 15 l)
  | .tUndefU1a _ => [14#4]
  | .tUndefU1b _ => [14#4]
  | .tUndefU1c _ => [14#4]
  | .tUndefU1d _ => [14#4]
  | .tUndefU1e _ => [14#4]
  | .tStmia rb l => [lowReg rb] ++ blockRegs (l.setWidth 16)
  | .tLdmia rb l => [lowReg rb] ++ blockRegs (l.setWidth 16)
  | .tBEq _ => []
  | .tBNe _ => []
  | .tBCs _ => []
  | .tBCc _ => []
  | .tBMi _ => []
  | .tBPl _ => []
  | .tBVs _ => []
  | .tBVc _ => []
  | .tBHi _ => []
  | .tBLs _ => []
  | .tBGe _ => []
  | .tBLt _ => []
  | .tBGt _ => []
  | .tBLe _ => []
  | .tUndefU2 _ => [14#4]
  | .tSwi _ => [14#4]
  | .tB _ => []
  | .tUndefU3 _ => [14#4]
  | .tBlPrefix _ => [14#4]
  | .tBlSuffix _ => [14#4]

/-- The condition of an instruction (R141, R165): THUMB instructions other than the conditional branch always execute;
the conditional branch names no register. -/
def instrCond : Instr → Cond
  | .andImm c _ _ _ _ _ => c
  | .andShiftImm c _ _ _ _ _ _ => c
  | .andShiftReg c _ _ _ _ _ _ => c
  | .eorImm c _ _ _ _ _ => c
  | .eorShiftImm c _ _ _ _ _ _ => c
  | .eorShiftReg c _ _ _ _ _ _ => c
  | .subImm c _ _ _ _ _ => c
  | .subShiftImm c _ _ _ _ _ _ => c
  | .subShiftReg c _ _ _ _ _ _ => c
  | .rsbImm c _ _ _ _ _ => c
  | .rsbShiftImm c _ _ _ _ _ _ => c
  | .rsbShiftReg c _ _ _ _ _ _ => c
  | .addImm c _ _ _ _ _ => c
  | .addShiftImm c _ _ _ _ _ _ => c
  | .addShiftReg c _ _ _ _ _ _ => c
  | .adcImm c _ _ _ _ _ => c
  | .adcShiftImm c _ _ _ _ _ _ => c
  | .adcShiftReg c _ _ _ _ _ _ => c
  | .sbcImm c _ _ _ _ _ => c
  | .sbcShiftImm c _ _ _ _ _ _ => c
  | .sbcShiftReg c _ _ _ _ _ _ => c
  | .rscImm c _ _ _ _ _ => c
  | .rscShiftImm c _ _ _ _ _ _ => c
  | .rscShiftReg c _ _ _ _ _ _ => c
  | .tstImm c _ _ _ _ => c
  | .tstShiftImm c _ _ _ _ _ => c
  | .tstShiftReg c _ _ _ _ _ => c
  | .teqImm c _ _ _ _ => c
  | .teqShiftImm c _ _ _ _ _ => c
  | .teqShiftReg c _ _ _ _ _ => c
  | .cmpImm c _ _ _ _ => c
  | .cmpShiftImm c _ _ _ _ _ => c
  | .cmpShiftReg c _ _ _ _ _ => c
  | .cmnImm c _ _ _ _ => c
  | .cmnShiftImm c _ _ _ _ _ => c
  | .cmnShiftReg c _ _ _ _ _ => c
  | .orrImm c _ _ _ _ _ => c
  | .orrShiftImm c _ _ _ _ _ _ => c
  | .orrShiftReg c _ _ _ _ _ _ => c
  | .movImm c _ _ _ _ _ => c
  | .movShiftImm c _ _ _ _ _ _ => c
  | .movShiftReg c _ _ _ _ _ _ => c
  | .bicImm c _ _ _ _ _ => c
  | .bicShiftImm c _ _ _ _ _ _ => c
  | .bicShiftReg c _ _ _ _ _ _ => c
  | .mvnImm c _ _ _ _ _ => c
  | .mvnShiftImm c _ _ _ _ _ _ => c
  | .mvnShiftReg c _ _ _ _ _ _ => c
  | .mrs c _ _ _ _ _ => c
  | .msrReg c _ _ _ _ _ => c
  | .msrImm c _ _ _ _ _ => c
  | .bx c _ _ => c
  | .mul c _ _ _ _ _ => c
  | .mla c _ _ _ _ _ => c
  | .umull c _ _ _ _ _ => c
  | .umlal c _ _ _ _ _ => c
  | .smull c _ _ _ _ _ => c
  | .smlal c _ _ _ _ _ => c
  | .swp c _ _ _ _ => c
  | .swpb c _ _ _ _ => c
  | .undefU1 c _ _ _ => c
  | .strh c _ _ _ _ _ _ => c
  | .ldrh c _ _ _ _ _ _ => c
  | .ldrsb c _ _ _ _ _ _ => c
  | .ldrsh c _ _ _ _ _ _ => c
  | .undefU2 c _ _ _ _ => c
  | .undefU3 c _ _ _ _ => c
  | .undefU4 c _ _ => c
  | .ldrImmPre c _ _ _ _ _ => c
  | .ldrImmPost c _ _ _ _ => c
  | .ldrRegPre c _ _ _ _ _ _ _ => c
  | .ldrRegPost c _ _ _ _ _ _ => c
  | .strImmPre c _ _ _ _ _ => c
  | .strImmPost c _ _ _ _ => c
  | .strRegPre c _ _ _ _ _ _ _ => c
  | .strRegPost c _ _ _ _ _ _ => c
  | .ldrbImmPre c _ _ _ _ _ => c
  | .ldrbImmPost c _ _ _ _ => c
  | .ldrbRegPre c _ _ _ _ _ _ _ => c
  | .ldrbRegPost c _ _ _ _ _ _ => c
  | .strbImmPre c _ _ _ _ _ => c
  | .strbImmPost c _ _ _ _ => c
  | .strbRegPre c _ _ _ _ _ _ _ => c
  | .strbRegPost c _ _ _ _ _ _ => c
  | .ldrtImm c _ _ _ _ => c
  | .ldrtReg c _ _ _ _ _ _ => c
  | .strtImm c _ _ _ _ => c
  | .strtReg c _ _ _ _ _ _ => c
  | .ldrbtImm c _ _ _ _ => c
  | .ldrbtReg c _ _ _ _ _ _ => c
  | .strbtImm c _ _ _ _ => c
  | .strbtReg c _ _ _ _ _ _ => c
  | .undefU5 c _ _ => c
  | .ldm c _ _ _ _ _ _ => c
  | .stm c _ _ _ _ _ _ => c
  | .b c _ => c
  | .bl c _ => c
  | .ldc c _ _ _ _ _ _ _ _ => c
  | .stc c _ _ _ _ _ _ _ _ => c
  | .cdp c _ _ _ _ _ _ => c
  | .mcr c _ _ _ _ _ _ => c
  | .mrc c _ _ _ _ _ _ => c
  | .swi c _ => c
  | .tLslImm _ _ _ => .al
  | .tLsrImm _ _ _ => .al
  | .tAsrImm _ _ _ => .al
  | .tAddReg _ _ _ => .al
  | .tSubReg _ _ _ => .al
  | .tAddImm3 _ _ _ => .al
  | .tSubImm3 _ _ _ => .al
  | .tMovImm8 _ _ => .al
  | .tCmpImm8 _ _ => .al
  | .tAddImm8 _ _ => .al
  | .tSubImm8 _ _ => .al
  | .tAnd _ _ => .al
  | .tEor _ _ => .al
  | .tLsl _ _ => .al
  | .tLsr _ _ => .al
  | .tAsr _ _ => .al
  | .tAdc _ _ => .al
  | .tSbc _ _ => .al
  | .tRor _ _ => .al
  | .tTst _ _ => .al
  | .tNeg _ _ => .al
  | .tCmp _ _ => .al
  | .tCmn _ _ => .al
  | .tOrr _ _ => .al
  | .tMul _ _ => .al
  | .tBic _ _ => .al
  | .tMvn _ _ => .al
  | .tAddHi _ _ _ _ => .al
  | .tCmpHi _ _ _ _ => .al
  | .tMovHi _ _ _ _ => .al
  | .tBx _ _ _ _ => .al
  | .tLdrPc _ _ => .al
  | .tStrReg _ _ _ => .al
  | .tStrbReg _ _ _ => .al
  | .tLdrReg _ _ _ => .al
  | .tLdrbReg _ _ _ => .al
  | .tStrhReg _ _ _ => .al
  | .tLdsbReg _ _ _ => .al
  | .tLdrhReg _ _ _ => .al
  | .tLdshReg _ _ _ => .al
  | .tStrImm _ _ _ => .al
  | .tLdrImm _ _ _ => .al
  | .tStrbImm _ _ _ => .al
  | .tLdrbImm _ _ _ => .al
  | .tStrhImm _ _ _ => .al
  | .tLdrhImm _ _ _ => .al
  | .tStrSp _ _ => .al
  | .tLdrSp _ _ => .al
  | .tAddPc _ _ => .al
  | .tAddSp _ _ => .al
  | .tAddSpImm _ => .al
  | .tSubSpImm _ => .al
  | .tPush _ _ => .al
  | .tPop _ _ => .al
  | .tUndefU1a _ => .al
  | .tUndefU1b _ => .al
  | .tUndefU1c _ => .al
  | .tUndefU1d _ => .al
  | .tUndefU1e _ => .al
  | .tStmia _ _ => .al
  | .tLdmia _ _ => .al
  | .tBEq _ => .al
  | .tBNe _ => .al
  | .tBCs _ => .al
  | .tBCc _ => .al
  | .tBMi _ => .al
  | .tBPl _ => .al
  | .tBVs _ => .al
  | .tBVc _ => .al
  | .tBHi _ => .al
  | .tBLs _ => .al
  | .tBGe _ => .al
  | .tBLt _ => .al
  | .tBGt _ => .al
  | .tBLe _ => .al
  | .tUndefU2 _ => .al
  | .tSwi _ => .al
  | .tB _ => .al
  | .tUndefU3 _ => .al
  | .tBlPrefix _ => .al
  | .tBlSuffix _ => .al

/-- The current mode has its own copy of a register that User mode names too (R42). -/
def banked (m : Mode) (r : RegNo) : Bool := phys m r != phys .user r

/-- The instruction executes and accesses a banked register (R343 LDM-S-user-next). -/
def touchesBanked (i : Instr) (s : State) : Bool :=
  condPassed (instrCond i) s.cpsr && (namedRegisters i).any (banked s.cpsr.mode)

/-- LDM-S-user-next (R343, R826) for a policy: under `fixed` there is no hazard. -/
def bankedNextUnder (policy : UnpredPolicy) (i : Instr) (s : State) : Bool :=
  match policy with
  | .fixed => false
  | .strict => s.userLdm && touchesBanked i s

end Sys2Proof.Machine
end

