-- ==== Sys2Proof/Machine/Cycle.lean ====
section
/-! DEFINITION. The parts of one dispatch step (R650): external events (R657), the DMA unit (R745), the bubble (R56),
HALT and STOP idle (R654, R655), IRQ entry (R607) and one instruction (R54). -/

namespace Sys2Proof.Machine

/-! ## External events -/

/-- The trigger type of an external DMA trigger (R740). -/
def ExtTrigger.code : ExtTrigger → BitVec 2
  | .vblank => 1#2
  | .hblank => 2#2
  | .special => 3#2

/-- The DMA channel of a sound FIFO (R748). -/
def FifoChannel.channel : FifoChannel → Fin 4
  | .one => 1
  | .two => 2

/-- Apply one external event (R657). -/
def State.applyEnv (s : State) (e : EnvEvent) : State :=
  match e with
  | .request q => s.requestLine (1#14 <<< q.bit)
  | .dmaTrigger n t => s.requestTrigger n t.code
  | .fifoRequest n => s.requestTrigger n.channel 3#2
  | .keypadWake => { s with stopped := false }

/-- The event is due at a clock (R657). -/
def dueAt (clock : Nat) (x : Nat × EnvEvent) : Bool := decide (x.1 ≤ clock)

/-- `DeliverEnv` (R657): apply in order every event whose time has come, and keep the others. -/
def State.deliverEnv (s : State) : State :=
  (s.env.filter (dueAt s.clock)).foldl (fun s x => s.applyEnv x.2)
    { s with env := s.env.filter fun x => !dueAt s.clock x }

/-! ## Charging -/

/-- The end of a step that made accesses (R650): the clocks it cost are charged, and the timers advance by them. -/
def State.settle (s : State) : State := ({ s with stepClocks := 0 } : State).charge s.stepClocks

/-! ## The DMA unit -/

/-- The channel transfers a sound-FIFO block (R745, R748). -/
def DmaChannel.fifoMode (c : DmaChannel) (n : Fin 4) : Bool := fifoChannel n && ctlTiming c.ctl == 3#2

/-- The unit moves 32 bits (R745, R712). -/
def DmaChannel.wordUnit (c : DmaChannel) (n : Fin 4) : Bool := c.fifoMode n || c.ctl.getLsbD 10

/-- The read and the write of a unit, and `dmaBusValue` (R745): a 16-bit value is kept in both halves. -/
def State.unitMove (s : State) (n : Fin 4) : State :=
  let c := s.dma.get n
  if c.wordUnit n then
    let v := s.read32 (alignWord c.srcShadow)
    { (s.dmaRead n (alignWord c.srcShadow) .word).dmaWrite n (alignWord c.dstShadow) .word v with dmaBusValue := v }
  else
    let h := s.read16 (alignHalf c.srcShadow)
    { (s.dmaRead n (alignHalf c.srcShadow) .half).dmaWrite n (alignHalf c.dstShadow) .half (h.setWidth 32) with
      dmaBusValue := h ++ h }

/-- The size of a unit in bytes (R745). -/
def unitSize (word : Bool) : Word := if word then 4 else 2

/-- `PerformUnit` (R745): whether it is a FIFO block and its size are those at its start; the addresses and the count
then move by the registers as the unit left them. Log entry 31. -/
def State.performUnit (s : State) (n : Fin 4) : State :=
  let fifo := (s.dma.get n).fifoMode n
  let size := unitSize ((s.dma.get n).wordUnit n)
  let s1 := s.unitMove n
  let x := ((s1.dma.get n).advance n size fifo).countDown n fifo
  let s2 := s1.setDma n x.1
  if x.2 then s2.finalizeDma n fifo else s2

/-! ## The CPU -/

/-- One bubble less. -/
def bubbleLess (b : Fin 3) : Fin 3 := Fin.ofNat 3 (b.val - 1)

/-- The prefetched words and `pc` move on by one instruction (R54, R56): `f` is the word just fetched. -/
def State.shiftPipe (s : State) (w f : Word) : State :=
  { s with pc := s.pc + w, slotExec := s.slotDecode, slotDecode := f }

/-- `BubbleStep` (R56): a fetch. -/
def State.bubbleStep (s : State) : State :=
  { (s.fetch).shiftPipe s.w s.fetchValue with bubble := bubbleLess s.bubble }

/-- The instruction in a slot (R52, R53): in THUMB state only bits 15:0 are meaningful. -/
def slotInstr (t : Bool) (slot : Word) : Instr := if t then decodeThumb (slot.setWidth 16) else decodeArm slot

/-- The state an instruction executes in (R54): the step's fetch is done, `pc` still reads A + 2w. -/
def State.beginInstr (s : State) : State := { s.fetch with userLdm := false }

/-- The end of an instruction (R54): unless it branched, the pipeline moves on. -/
def State.endInstr (s : State) (w f : Word) : State := if s.bubble = 0 then s.shiftPipe w f else s

/-- `NormalStep` (R54) and its charge (R650). -/
def normalStep (s : State) : Result :=
  let i := slotInstr s.cpsr.t s.slotExec
  if bankedNextUnder Config.unpredPolicy i s then .fault (.unpredictable .ldmSUserNext)
  else
    match exec i s.beginInstr with
    | .next t => .next (t.endInstr s.w s.fetchValue).settle
    | .fault r => .fault r
    | .refused r => .refused r

/-- IRQ entry (R607): the link is the address of the next instruction plus 4, in both states. -/
def State.enterIrq (s : State) : State := s.enterException .irq (s.pc - (s.w + s.w) + 4)

/-- The interrupt test and the instruction (R611, R650). -/
def irqOrInstr (s : State) : Result := if s.irqLine && !s.cpsr.i then .next s.enterIrq else normalStep s

/-- The HALT test (R654, R650): a wake falls through to the interrupt test in the same step. -/
def haltOrRun (s : State) : Result :=
  if s.halted && !s.haltWake then .next (s.charge 1) else irqOrInstr { s with halted := false }

/-- `DispatchStep` after the external events (R650), in its fixed order: STOP, DMA unit, bubble, HALT, IRQ entry,
instruction. -/
def dispatchRest (s : State) : Result :=
  if s.stopped then .next { s with clock := s.clock + 1 }
  else
    match s.armed with
    | some n => .next (s.performUnit n).settle
    | none => if s.bubble ≠ 0 then .next s.bubbleStep.settle else haltOrRun s

/-- `DispatchStep` (R650). -/
def dispatchStep (s : State) : Result := dispatchRest s.deliverEnv

/-! ## Placing an instruction -/

/-- The machine about to run the instruction with bits `w` as its very next step: it sits in `slotExec`, in the state
its width selects, and nothing that R650 puts before an instruction is left. Log entry 6. -/
def State.placeWord (s : State) (thumb : Bool) (w : Nat) : State :=
  let size : Word := if thumb then 2 else 4
  let p := alignTarget thumb s.pc
  { s with
    cpsr := { s.cpsr with t := thumb }
    pc := if s.bubble = 2 then p + size + size else if s.bubble = 1 then p + size else p
    slotExec := BitVec.ofNat 32 w
    bubble := 0
    halted := false
    stopped := false
    armed := none
    env := s.env.filter fun x => !dueAt s.clock x
    irq := { s.irq with ime := s.irq.ime && (s.cpsr.i || s.irq.pending == 0) }
    userLdm := false }

end Sys2Proof.Machine
end

