-- ==== Sys2Proof/Machine/Step.lean ====
section
/-! DEFINITION. One step of the machine, and the state whose next step runs a given instruction. -/

namespace Sys2Proof.Machine

/-- One step is one dispatch step (R650). -/
def step (s : State) : Host.Outcome State Fault Refusal := dispatchStep s

/-- `s` with the instruction of `nbits` bits `w` as the one its next step runs: 16 bits is a THUMB halfword, otherwise
an ARM word (R140). Log entry 6. -/
def State.withFetchWord (s : State) (nbits w : Nat) : State := s.placeWord (nbits == 16) w

end Sys2Proof.Machine
end

