-- ==== Sys2Proof/Machine/HostInterface.lean ====
section
/-! DEFINITION. What the host does to the machine between steps (R652, R660, R800, R803), and the source's named states
(R651). -/

namespace Sys2Proof.Machine

/-- Why construction fails (R803). -/
inductive InitFailure
  /-- No boot-ROM image was supplied and skip-boot was not requested. -/
  | noBootRom
  deriving DecidableEq, Repr

/-- Construction (R800, R803): the reset state over the collaborators' memory and inputs, or a failure and no state. -/
def construct (skipBoot bootRomPresent : Bool) (mem : List Host.Cell) (env : List (Nat × EnvEvent)) :
    Except InitFailure State :=
  if !bootRomPresent && !skipBoot then .error .noBootRom
  else .ok { State.resetFor skipBoot with mem := mem, env := env }

/-- A restart request (R608, R800): every field of the block takes its reset value; memory and the inputs still to
come are the collaborators' and stay. Log entry 20. -/
def restart (skipBoot : Bool) (s : State) : State := { State.resetFor skipBoot with mem := s.mem, env := s.env }

/-- The host supplies further external events (R660, R657). -/
def provideEnv (s : State) (events : List (Nat × EnvEvent)) : State := { s with env := s.env ++ events }

/-- The loop of `advance` (R652): steps while the budget lasts. `none` when `fuel` steps did not use it up. Log entry
21. -/
def runBudget : Nat → State → Option Result
  | fuel, s =>
    if s.budgetEnd ≤ s.clock then some (.next s)
    else
      match fuel with
      | 0 => none
      | k + 1 =>
        match step s with
        | .next t => runBudget k t
        | .fault r => some (.fault r)
        | .refused r => some (.refused r)

/-- The end of `advance` (R652): the overshoot is carried and the buffered work is flushed. -/
def State.endAdvance (s : State) : State :=
  { s with carry := s.clock - s.budgetEnd, iterationEnd := true, out := s.out ++ [.flush] }

/-- `advance` (R652). -/
def advance (budget fuel : Nat) (s : State) : Option Result :=
  match runBudget fuel { s with iterationEnd := false, budgetEnd := s.budgetEnd + budget } with
  | some (.next t) => some (.next t.endAdvance)
  | r => r

/-- The source's names of the dispatch states (R651). -/
inductive NamedState
  | stop | dmaActive | bubble (t : Bool) | halt | irqEntry | normal (t : Bool) | iterationEnd
  deriving DecidableEq, Repr

/-- The named state of a state in which a step is about to run (R651). -/
def State.named (s : State) : NamedState :=
  if s.stopped then .stop
  else if s.armed ≠ none then .dmaActive
  else if s.bubble ≠ 0 then .bubble s.cpsr.t
  else if s.halted then .halt
  else if s.irqLine && !s.cpsr.i then .irqEntry
  else .normal s.cpsr.t

/-- The named state between two `advance` calls (R651, R652). -/
def State.namedBetween (s : State) : NamedState := if s.iterationEnd then .iterationEnd else s.named

end Sys2Proof.Machine
end

