-- ==== Sys2Proof/Machine/OpcodeTable.lean ====
section
/-! DEFINITION. The opcode table (R178) as data, and the lookup of a word in it. The machine decodes by R146 and R167
(`decodeArm`, `decodeThumb`); the table is the spec's second description of the same classes. -/

namespace Sys2Proof.Machine

/-- One row of the table (R178): bits under `mask` must equal `val`. A THUMB row's bits 31:16 are 0. -/
structure OpRow where
  mnemonic : String
  priority : Nat
  mask : Word
  val : Word
  deriving DecidableEq, Repr

/-- A word belongs to a row (R178). -/
def OpRow.fits (r : OpRow) (x : Word) : Bool := x &&& r.mask == r.val

/-- No word belongs to both rows: some bit is fixed to different values. -/
def OpRow.disjoint (r q : OpRow) : Bool := r.mask &&& q.mask &&& (r.val ^^^ q.val) != 0

/-- Rows of the ARM table. -/
def armRows0 : List OpRow :=
  [⟨"AND__imm", 0, 0x0FE00000, 0x02000000⟩,
   ⟨"AND__reg__imm_shift", 0, 0x0FE00010, 0x00000000⟩,
   ⟨"AND__reg__reg_shift", 0, 0x0FE00090, 0x00000010⟩,
   ⟨"EOR__imm", 0, 0x0FE00000, 0x02200000⟩,
   ⟨"EOR__reg__imm_shift", 0, 0x0FE00010, 0x00200000⟩,
   ⟨"EOR__reg__reg_shift", 0, 0x0FE00090, 0x00200010⟩,
   ⟨"SUB__imm", 0, 0x0FE00000, 0x02400000⟩,
   ⟨"SUB__reg__imm_shift", 0, 0x0FE00010, 0x00400000⟩,
   ⟨"SUB__reg__reg_shift", 0, 0x0FE00090, 0x00400010⟩,
   ⟨"RSB__imm", 0, 0x0FE00000, 0x02600000⟩,
   ⟨"RSB__reg__imm_shift", 0, 0x0FE00010, 0x00600000⟩,
   ⟨"RSB__reg__reg_shift", 0, 0x0FE00090, 0x00600010⟩]

/-- Rows of the ARM table. -/
def armRows1 : List OpRow :=
  [⟨"ADD__imm", 0, 0x0FE00000, 0x02800000⟩,
   ⟨"ADD__reg__imm_shift", 0, 0x0FE00010, 0x00800000⟩,
   ⟨"ADD__reg__reg_shift", 0, 0x0FE00090, 0x00800010⟩,
   ⟨"ADC__imm", 0, 0x0FE00000, 0x02A00000⟩,
   ⟨"ADC__reg__imm_shift", 0, 0x0FE00010, 0x00A00000⟩,
   ⟨"ADC__reg__reg_shift", 0, 0x0FE00090, 0x00A00010⟩,
   ⟨"SBC__imm", 0, 0x0FE00000, 0x02C00000⟩,
   ⟨"SBC__reg__imm_shift", 0, 0x0FE00010, 0x00C00000⟩,
   ⟨"SBC__reg__reg_shift", 0, 0x0FE00090, 0x00C00010⟩,
   ⟨"RSC__imm", 0, 0x0FE00000, 0x02E00000⟩,
   ⟨"RSC__reg__imm_shift", 0, 0x0FE00010, 0x00E00000⟩,
   ⟨"RSC__reg__reg_shift", 0, 0x0FE00090, 0x00E00010⟩]

/-- Rows of the ARM table. -/
def armRows2 : List OpRow :=
  [⟨"TST__imm", 0, 0x0FF00000, 0x03100000⟩,
   ⟨"TST__reg__imm_shift", 0, 0x0FF00010, 0x01100000⟩,
   ⟨"TST__reg__reg_shift", 0, 0x0FF00090, 0x01100010⟩,
   ⟨"TEQ__imm", 0, 0x0FF00000, 0x03300000⟩,
   ⟨"TEQ__reg__imm_shift", 0, 0x0FF00010, 0x01300000⟩,
   ⟨"TEQ__reg__reg_shift", 0, 0x0FF00090, 0x01300010⟩,
   ⟨"CMP__imm", 0, 0x0FF00000, 0x03500000⟩,
   ⟨"CMP__reg__imm_shift", 0, 0x0FF00010, 0x01500000⟩,
   ⟨"CMP__reg__reg_shift", 0, 0x0FF00090, 0x01500010⟩,
   ⟨"CMN__imm", 0, 0x0FF00000, 0x03700000⟩,
   ⟨"CMN__reg__imm_shift", 0, 0x0FF00010, 0x01700000⟩,
   ⟨"CMN__reg__reg_shift", 0, 0x0FF00090, 0x01700010⟩]

/-- Rows of the ARM table. -/
def armRows3 : List OpRow :=
  [⟨"ORR__imm", 0, 0x0FE00000, 0x03800000⟩,
   ⟨"ORR__reg__imm_shift", 0, 0x0FE00010, 0x01800000⟩,
   ⟨"ORR__reg__reg_shift", 0, 0x0FE00090, 0x01800010⟩,
   ⟨"MOV__imm", 0, 0x0FE00000, 0x03A00000⟩,
   ⟨"MOV__reg__imm_shift", 0, 0x0FE00010, 0x01A00000⟩,
   ⟨"MOV__reg__reg_shift", 0, 0x0FE00090, 0x01A00010⟩,
   ⟨"BIC__imm", 0, 0x0FE00000, 0x03C00000⟩,
   ⟨"BIC__reg__imm_shift", 0, 0x0FE00010, 0x01C00000⟩,
   ⟨"BIC__reg__reg_shift", 0, 0x0FE00090, 0x01C00010⟩,
   ⟨"MVN__imm", 0, 0x0FE00000, 0x03E00000⟩,
   ⟨"MVN__reg__imm_shift", 0, 0x0FE00010, 0x01E00000⟩,
   ⟨"MVN__reg__reg_shift", 0, 0x0FE00090, 0x01E00010⟩]

/-- Rows of the ARM table. -/
def armRows4 : List OpRow :=
  [⟨"MRS", 0, 0x0FB000F0, 0x01000000⟩,
   ⟨"MSR__reg", 0, 0x0FB000F0, 0x01200000⟩,
   ⟨"MSR__imm", 0, 0x0FB00000, 0x03200000⟩,
   ⟨"BX", 0, 0x0FF000F0, 0x01200010⟩,
   ⟨"MUL", 0, 0x0FE000F0, 0x00000090⟩,
   ⟨"MLA", 0, 0x0FE000F0, 0x00200090⟩,
   ⟨"UMULL", 0, 0x0FE000F0, 0x00800090⟩,
   ⟨"UMLAL", 0, 0x0FE000F0, 0x00A00090⟩,
   ⟨"SMULL", 0, 0x0FE000F0, 0x00C00090⟩,
   ⟨"SMLAL", 0, 0x0FE000F0, 0x00E00090⟩,
   ⟨"SWP", 0, 0x0FF000F0, 0x01000090⟩,
   ⟨"SWPB", 0, 0x0FF000F0, 0x01400090⟩]

/-- Rows of the ARM table. -/
def armRows5 : List OpRow :=
  [⟨"UNDEF_U1", 1, 0x0E0000F0, 0x00000090⟩,
   ⟨"STRH", 0, 0x0E1000F0, 0x000000B0⟩,
   ⟨"LDRH", 0, 0x0E1000F0, 0x001000B0⟩,
   ⟨"LDRSB", 0, 0x0E1000F0, 0x001000D0⟩,
   ⟨"LDRSH", 0, 0x0E1000F0, 0x001000F0⟩,
   ⟨"UNDEF_U2", 0, 0x0E1000D0, 0x000000D0⟩,
   ⟨"UNDEF_U3", 2, 0x0F900000, 0x01000000⟩,
   ⟨"UNDEF_U4", 0, 0x0FB00000, 0x03000000⟩,
   ⟨"LDR__imm__pre", 0, 0x0F500000, 0x05100000⟩,
   ⟨"LDR__imm__post", 0, 0x0F700000, 0x04100000⟩,
   ⟨"LDR__reg__pre", 0, 0x0F500010, 0x07100000⟩,
   ⟨"LDR__reg__post", 0, 0x0F700010, 0x06100000⟩]

/-- Rows of the ARM table. -/
def armRows6 : List OpRow :=
  [⟨"STR__imm__pre", 0, 0x0F500000, 0x05000000⟩,
   ⟨"STR__imm__post", 0, 0x0F700000, 0x04000000⟩,
   ⟨"STR__reg__pre", 0, 0x0F500010, 0x07000000⟩,
   ⟨"STR__reg__post", 0, 0x0F700010, 0x06000000⟩,
   ⟨"LDRB__imm__pre", 0, 0x0F500000, 0x05500000⟩,
   ⟨"LDRB__imm__post", 0, 0x0F700000, 0x04500000⟩,
   ⟨"LDRB__reg__pre", 0, 0x0F500010, 0x07500000⟩,
   ⟨"LDRB__reg__post", 0, 0x0F700010, 0x06500000⟩,
   ⟨"STRB__imm__pre", 0, 0x0F500000, 0x05400000⟩,
   ⟨"STRB__imm__post", 0, 0x0F700000, 0x04400000⟩,
   ⟨"STRB__reg__pre", 0, 0x0F500010, 0x07400000⟩,
   ⟨"STRB__reg__post", 0, 0x0F700010, 0x06400000⟩]

/-- Rows of the ARM table. -/
def armRows7 : List OpRow :=
  [⟨"LDRT__imm", 0, 0x0F700000, 0x04300000⟩,
   ⟨"LDRT__reg", 0, 0x0F700010, 0x06300000⟩,
   ⟨"STRT__imm", 0, 0x0F700000, 0x04200000⟩,
   ⟨"STRT__reg", 0, 0x0F700010, 0x06200000⟩,
   ⟨"LDRBT__imm", 0, 0x0F700000, 0x04700000⟩,
   ⟨"LDRBT__reg", 0, 0x0F700010, 0x06700000⟩,
   ⟨"STRBT__imm", 0, 0x0F700000, 0x04600000⟩,
   ⟨"STRBT__reg", 0, 0x0F700010, 0x06600000⟩,
   ⟨"UNDEF_U5", 0, 0x0E000010, 0x06000010⟩,
   ⟨"LDM", 0, 0x0E100000, 0x08100000⟩,
   ⟨"STM", 0, 0x0E100000, 0x08000000⟩,
   ⟨"B", 0, 0x0F000000, 0x0A000000⟩]

/-- Rows of the ARM table. -/
def armRows8 : List OpRow :=
  [⟨"BL", 0, 0x0F000000, 0x0B000000⟩,
   ⟨"LDC", 0, 0x0E100000, 0x0C100000⟩,
   ⟨"STC", 0, 0x0E100000, 0x0C000000⟩,
   ⟨"CDP", 0, 0x0F000010, 0x0E000000⟩,
   ⟨"MCR", 0, 0x0F100010, 0x0E000010⟩,
   ⟨"MRC", 0, 0x0F100010, 0x0E100010⟩,
   ⟨"SWI", 0, 0x0F000000, 0x0F000000⟩]

/-- The ARM table: 103 rows (R178). -/
def armTable : List OpRow :=
  armRows0 ++ armRows1 ++ armRows2 ++ armRows3 ++ armRows4 ++ armRows5 ++ armRows6 ++ armRows7 ++ armRows8

/-- Rows of the THUMB table. -/
def thumbRows0 : List OpRow :=
  [⟨"T_LSL__imm", 0, 0x0000F800, 0x00000000⟩,
   ⟨"T_LSR__imm", 0, 0x0000F800, 0x00000800⟩,
   ⟨"T_ASR__imm", 0, 0x0000F800, 0x00001000⟩,
   ⟨"T_ADD__reg", 0, 0x0000FE00, 0x00001800⟩,
   ⟨"T_SUB__reg", 0, 0x0000FE00, 0x00001A00⟩,
   ⟨"T_ADD__imm3", 0, 0x0000FE00, 0x00001C00⟩,
   ⟨"T_SUB__imm3", 0, 0x0000FE00, 0x00001E00⟩,
   ⟨"T_MOV__imm8", 0, 0x0000F800, 0x00002000⟩,
   ⟨"T_CMP__imm8", 0, 0x0000F800, 0x00002800⟩,
   ⟨"T_ADD__imm8", 0, 0x0000F800, 0x00003000⟩,
   ⟨"T_SUB__imm8", 0, 0x0000F800, 0x00003800⟩,
   ⟨"T_AND", 0, 0x0000FFC0, 0x00004000⟩]

/-- Rows of the THUMB table. -/
def thumbRows1 : List OpRow :=
  [⟨"T_EOR", 0, 0x0000FFC0, 0x00004040⟩,
   ⟨"T_LSL", 0, 0x0000FFC0, 0x00004080⟩,
   ⟨"T_LSR", 0, 0x0000FFC0, 0x000040C0⟩,
   ⟨"T_ASR", 0, 0x0000FFC0, 0x00004100⟩,
   ⟨"T_ADC", 0, 0x0000FFC0, 0x00004140⟩,
   ⟨"T_SBC", 0, 0x0000FFC0, 0x00004180⟩,
   ⟨"T_ROR", 0, 0x0000FFC0, 0x000041C0⟩,
   ⟨"T_TST", 0, 0x0000FFC0, 0x00004200⟩,
   ⟨"T_NEG", 0, 0x0000FFC0, 0x00004240⟩,
   ⟨"T_CMP", 0, 0x0000FFC0, 0x00004280⟩,
   ⟨"T_CMN", 0, 0x0000FFC0, 0x000042C0⟩,
   ⟨"T_ORR", 0, 0x0000FFC0, 0x00004300⟩]

/-- Rows of the THUMB table. -/
def thumbRows2 : List OpRow :=
  [⟨"T_MUL", 0, 0x0000FFC0, 0x00004340⟩,
   ⟨"T_BIC", 0, 0x0000FFC0, 0x00004380⟩,
   ⟨"T_MVN", 0, 0x0000FFC0, 0x000043C0⟩,
   ⟨"T_ADD__hi", 0, 0x0000FF00, 0x00004400⟩,
   ⟨"T_CMP__hi", 0, 0x0000FF00, 0x00004500⟩,
   ⟨"T_MOV__hi", 0, 0x0000FF00, 0x00004600⟩,
   ⟨"T_BX", 0, 0x0000FF00, 0x00004700⟩,
   ⟨"T_LDR__PC-rel", 0, 0x0000F800, 0x00004800⟩,
   ⟨"T_STR__reg", 0, 0x0000FE00, 0x00005000⟩,
   ⟨"T_STRB__reg", 0, 0x0000FE00, 0x00005400⟩,
   ⟨"T_LDR__reg", 0, 0x0000FE00, 0x00005800⟩,
   ⟨"T_LDRB__reg", 0, 0x0000FE00, 0x00005C00⟩]

/-- Rows of the THUMB table. -/
def thumbRows3 : List OpRow :=
  [⟨"T_STRH__reg", 0, 0x0000FE00, 0x00005200⟩,
   ⟨"T_LDSB__reg", 0, 0x0000FE00, 0x00005600⟩,
   ⟨"T_LDRH__reg", 0, 0x0000FE00, 0x00005A00⟩,
   ⟨"T_LDSH__reg", 0, 0x0000FE00, 0x00005E00⟩,
   ⟨"T_STR__imm", 0, 0x0000F800, 0x00006000⟩,
   ⟨"T_LDR__imm", 0, 0x0000F800, 0x00006800⟩,
   ⟨"T_STRB__imm", 0, 0x0000F800, 0x00007000⟩,
   ⟨"T_LDRB__imm", 0, 0x0000F800, 0x00007800⟩,
   ⟨"T_STRH__imm", 0, 0x0000F800, 0x00008000⟩,
   ⟨"T_LDRH__imm", 0, 0x0000F800, 0x00008800⟩,
   ⟨"T_STR__SP-rel", 0, 0x0000F800, 0x00009000⟩,
   ⟨"T_LDR__SP-rel", 0, 0x0000F800, 0x00009800⟩]

/-- Rows of the THUMB table. -/
def thumbRows4 : List OpRow :=
  [⟨"T_ADD__PC-rel", 0, 0x0000F800, 0x0000A000⟩,
   ⟨"T_ADD__SP-rel", 0, 0x0000F800, 0x0000A800⟩,
   ⟨"T_ADD_SP__imm", 0, 0x0000FF80, 0x0000B000⟩,
   ⟨"T_SUB_SP__imm", 0, 0x0000FF80, 0x0000B080⟩,
   ⟨"T_PUSH", 0, 0x0000FE00, 0x0000B400⟩,
   ⟨"T_POP", 0, 0x0000FE00, 0x0000BC00⟩,
   ⟨"T_UNDEF_T-U1a", 0, 0x0000FF00, 0x0000B100⟩,
   ⟨"T_UNDEF_T-U1b", 0, 0x0000FE00, 0x0000B200⟩,
   ⟨"T_UNDEF_T-U1c", 0, 0x0000FE00, 0x0000B600⟩,
   ⟨"T_UNDEF_T-U1d", 0, 0x0000FC00, 0x0000B800⟩,
   ⟨"T_UNDEF_T-U1e", 0, 0x0000FE00, 0x0000BE00⟩,
   ⟨"T_STMIA", 0, 0x0000F800, 0x0000C000⟩]

/-- Rows of the THUMB table. -/
def thumbRows5 : List OpRow :=
  [⟨"T_LDMIA", 0, 0x0000F800, 0x0000C800⟩,
   ⟨"T_BEQ", 0, 0x0000FF00, 0x0000D000⟩,
   ⟨"T_BNE", 0, 0x0000FF00, 0x0000D100⟩,
   ⟨"T_BCS", 0, 0x0000FF00, 0x0000D200⟩,
   ⟨"T_BCC", 0, 0x0000FF00, 0x0000D300⟩,
   ⟨"T_BMI", 0, 0x0000FF00, 0x0000D400⟩,
   ⟨"T_BPL", 0, 0x0000FF00, 0x0000D500⟩,
   ⟨"T_BVS", 0, 0x0000FF00, 0x0000D600⟩,
   ⟨"T_BVC", 0, 0x0000FF00, 0x0000D700⟩,
   ⟨"T_BHI", 0, 0x0000FF00, 0x0000D800⟩,
   ⟨"T_BLS", 0, 0x0000FF00, 0x0000D900⟩,
   ⟨"T_BGE", 0, 0x0000FF00, 0x0000DA00⟩]

/-- Rows of the THUMB table. -/
def thumbRows6 : List OpRow :=
  [⟨"T_BLT", 0, 0x0000FF00, 0x0000DB00⟩,
   ⟨"T_BGT", 0, 0x0000FF00, 0x0000DC00⟩,
   ⟨"T_BLE", 0, 0x0000FF00, 0x0000DD00⟩,
   ⟨"T_UNDEF_T-U2", 0, 0x0000FF00, 0x0000DE00⟩,
   ⟨"T_SWI", 0, 0x0000FF00, 0x0000DF00⟩,
   ⟨"T_B", 0, 0x0000F800, 0x0000E000⟩,
   ⟨"T_UNDEF_T-U3", 0, 0x0000F800, 0x0000E800⟩,
   ⟨"T_BL__prefix", 0, 0x0000F800, 0x0000F000⟩,
   ⟨"T_BL__suffix", 0, 0x0000F800, 0x0000F800⟩]

/-- The THUMB table: 81 rows (R178). -/
def thumbTable : List OpRow :=
  thumbRows0 ++ thumbRows1 ++ thumbRows2 ++ thumbRows3 ++ thumbRows4 ++ thumbRows5 ++ thumbRows6

/-- The table of an instruction set. -/
def opTable : Isa → List OpRow
  | .arm => armTable
  | .thumb => thumbTable

/-- The least priority among rows (R178). -/
def leastPriority (rs : List OpRow) : Nat := rs.foldl (fun p r => min p r.priority) 3

/-- `Lookup` (R178): the row of least priority among those the word belongs to; `none` if that row is not unique. -/
def lookup (isa : Isa) (x : Word) : Option OpRow :=
  let fit := (opTable isa).filter fun r => r.fits x
  match fit.filter fun r => r.priority == leastPriority fit with
  | [r] => some r
  | _ => none

/-- The mnemonic of an instruction's row. -/
def mnemonic : Instr → String
  | .andImm _ _ _ _ _ _ => "AND__imm"
  | .andShiftImm _ _ _ _ _ _ _ => "AND__reg__imm_shift"
  | .andShiftReg _ _ _ _ _ _ _ => "AND__reg__reg_shift"
  | .eorImm _ _ _ _ _ _ => "EOR__imm"
  | .eorShiftImm _ _ _ _ _ _ _ => "EOR__reg__imm_shift"
  | .eorShiftReg _ _ _ _ _ _ _ => "EOR__reg__reg_shift"
  | .subImm _ _ _ _ _ _ => "SUB__imm"
  | .subShiftImm _ _ _ _ _ _ _ => "SUB__reg__imm_shift"
  | .subShiftReg _ _ _ _ _ _ _ => "SUB__reg__reg_shift"
  | .rsbImm _ _ _ _ _ _ => "RSB__imm"
  | .rsbShiftImm _ _ _ _ _ _ _ => "RSB__reg__imm_shift"
  | .rsbShiftReg _ _ _ _ _ _ _ => "RSB__reg__reg_shift"
  | .addImm _ _ _ _ _ _ => "ADD__imm"
  | .addShiftImm _ _ _ _ _ _ _ => "ADD__reg__imm_shift"
  | .addShiftReg _ _ _ _ _ _ _ => "ADD__reg__reg_shift"
  | .adcImm _ _ _ _ _ _ => "ADC__imm"
  | .adcShiftImm _ _ _ _ _ _ _ => "ADC__reg__imm_shift"
  | .adcShiftReg _ _ _ _ _ _ _ => "ADC__reg__reg_shift"
  | .sbcImm _ _ _ _ _ _ => "SBC__imm"
  | .sbcShiftImm _ _ _ _ _ _ _ => "SBC__reg__imm_shift"
  | .sbcShiftReg _ _ _ _ _ _ _ => "SBC__reg__reg_shift"
  | .rscImm _ _ _ _ _ _ => "RSC__imm"
  | .rscShiftImm _ _ _ _ _ _ _ => "RSC__reg__imm_shift"
  | .rscShiftReg _ _ _ _ _ _ _ => "RSC__reg__reg_shift"
  | .tstImm _ _ _ _ _ => "TST__imm"
  | .tstShiftImm _ _ _ _ _ _ => "TST__reg__imm_shift"
  | .tstShiftReg _ _ _ _ _ _ => "TST__reg__reg_shift"
  | .teqImm _ _ _ _ _ => "TEQ__imm"
  | .teqShiftImm _ _ _ _ _ _ => "TEQ__reg__imm_shift"
  | .teqShiftReg _ _ _ _ _ _ => "TEQ__reg__reg_shift"
  | .cmpImm _ _ _ _ _ => "CMP__imm"
  | .cmpShiftImm _ _ _ _ _ _ => "CMP__reg__imm_shift"
  | .cmpShiftReg _ _ _ _ _ _ => "CMP__reg__reg_shift"
  | .cmnImm _ _ _ _ _ => "CMN__imm"
  | .cmnShiftImm _ _ _ _ _ _ => "CMN__reg__imm_shift"
  | .cmnShiftReg _ _ _ _ _ _ => "CMN__reg__reg_shift"
  | .orrImm _ _ _ _ _ _ => "ORR__imm"
  | .orrShiftImm _ _ _ _ _ _ _ => "ORR__reg__imm_shift"
  | .orrShiftReg _ _ _ _ _ _ _ => "ORR__reg__reg_shift"
  | .movImm _ _ _ _ _ _ => "MOV__imm"
  | .movShiftImm _ _ _ _ _ _ _ => "MOV__reg__imm_shift"
  | .movShiftReg _ _ _ _ _ _ _ => "MOV__reg__reg_shift"
  | .bicImm _ _ _ _ _ _ => "BIC__imm"
  | .bicShiftImm _ _ _ _ _ _ _ => "BIC__reg__imm_shift"
  | .bicShiftReg _ _ _ _ _ _ _ => "BIC__reg__reg_shift"
  | .mvnImm _ _ _ _ _ _ => "MVN__imm"
  | .mvnShiftImm _ _ _ _ _ _ _ => "MVN__reg__imm_shift"
  | .mvnShiftReg _ _ _ _ _ _ _ => "MVN__reg__reg_shift"
  | .mrs _ _ _ _ _ _ => "MRS"
  | .msrReg _ _ _ _ _ _ => "MSR__reg"
  | .msrImm _ _ _ _ _ _ => "MSR__imm"
  | .bx _ _ _ => "BX"
  | .mul _ _ _ _ _ _ => "MUL"
  | .mla _ _ _ _ _ _ => "MLA"
  | .umull _ _ _ _ _ _ => "UMULL"
  | .umlal _ _ _ _ _ _ => "UMLAL"
  | .smull _ _ _ _ _ _ => "SMULL"
  | .smlal _ _ _ _ _ _ => "SMLAL"
  | .swp _ _ _ _ _ => "SWP"
  | .swpb _ _ _ _ _ => "SWPB"
  | .undefU1 _ _ _ _ => "UNDEF_U1"
  | .strh _ _ _ _ _ _ _ => "STRH"
  | .ldrh _ _ _ _ _ _ _ => "LDRH"
  | .ldrsb _ _ _ _ _ _ _ => "LDRSB"
  | .ldrsh _ _ _ _ _ _ _ => "LDRSH"
  | .undefU2 _ _ _ _ _ => "UNDEF_U2"
  | .undefU3 _ _ _ _ _ => "UNDEF_U3"
  | .undefU4 _ _ _ => "UNDEF_U4"
  | .ldrImmPre _ _ _ _ _ _ => "LDR__imm__pre"
  | .ldrImmPost _ _ _ _ _ => "LDR__imm__post"
  | .ldrRegPre _ _ _ _ _ _ _ _ => "LDR__reg__pre"
  | .ldrRegPost _ _ _ _ _ _ _ => "LDR__reg__post"
  | .strImmPre _ _ _ _ _ _ => "STR__imm__pre"
  | .strImmPost _ _ _ _ _ => "STR__imm__post"
  | .strRegPre _ _ _ _ _ _ _ _ => "STR__reg__pre"
  | .strRegPost _ _ _ _ _ _ _ => "STR__reg__post"
  | .ldrbImmPre _ _ _ _ _ _ => "LDRB__imm__pre"
  | .ldrbImmPost _ _ _ _ _ => "LDRB__imm__post"
  | .ldrbRegPre _ _ _ _ _ _ _ _ => "LDRB__reg__pre"
  | .ldrbRegPost _ _ _ _ _ _ _ => "LDRB__reg__post"
  | .strbImmPre _ _ _ _ _ _ => "STRB__imm__pre"
  | .strbImmPost _ _ _ _ _ => "STRB__imm__post"
  | .strbRegPre _ _ _ _ _ _ _ _ => "STRB__reg__pre"
  | .strbRegPost _ _ _ _ _ _ _ => "STRB__reg__post"
  | .ldrtImm _ _ _ _ _ => "LDRT__imm"
  | .ldrtReg _ _ _ _ _ _ _ => "LDRT__reg"
  | .strtImm _ _ _ _ _ => "STRT__imm"
  | .strtReg _ _ _ _ _ _ _ => "STRT__reg"
  | .ldrbtImm _ _ _ _ _ => "LDRBT__imm"
  | .ldrbtReg _ _ _ _ _ _ _ => "LDRBT__reg"
  | .strbtImm _ _ _ _ _ => "STRBT__imm"
  | .strbtReg _ _ _ _ _ _ _ => "STRBT__reg"
  | .undefU5 _ _ _ => "UNDEF_U5"
  | .ldm _ _ _ _ _ _ _ => "LDM"
  | .stm _ _ _ _ _ _ _ => "STM"
  | .b _ _ => "B"
  | .bl _ _ => "BL"
  | .ldc _ _ _ _ _ _ _ _ _ => "LDC"
  | .stc _ _ _ _ _ _ _ _ _ => "STC"
  | .cdp _ _ _ _ _ _ _ => "CDP"
  | .mcr _ _ _ _ _ _ _ => "MCR"
  | .mrc _ _ _ _ _ _ _ => "MRC"
  | .swi _ _ => "SWI"
  | .tLslImm _ _ _ => "T_LSL__imm"
  | .tLsrImm _ _ _ => "T_LSR__imm"
  | .tAsrImm _ _ _ => "T_ASR__imm"
  | .tAddReg _ _ _ => "T_ADD__reg"
  | .tSubReg _ _ _ => "T_SUB__reg"
  | .tAddImm3 _ _ _ => "T_ADD__imm3"
  | .tSubImm3 _ _ _ => "T_SUB__imm3"
  | .tMovImm8 _ _ => "T_MOV__imm8"
  | .tCmpImm8 _ _ => "T_CMP__imm8"
  | .tAddImm8 _ _ => "T_ADD__imm8"
  | .tSubImm8 _ _ => "T_SUB__imm8"
  | .tAnd _ _ => "T_AND"
  | .tEor _ _ => "T_EOR"
  | .tLsl _ _ => "T_LSL"
  | .tLsr _ _ => "T_LSR"
  | .tAsr _ _ => "T_ASR"
  | .tAdc _ _ => "T_ADC"
  | .tSbc _ _ => "T_SBC"
  | .tRor _ _ => "T_ROR"
  | .tTst _ _ => "T_TST"
  | .tNeg _ _ => "T_NEG"
  | .tCmp _ _ => "T_CMP"
  | .tCmn _ _ => "T_CMN"
  | .tOrr _ _ => "T_ORR"
  | .tMul _ _ => "T_MUL"
  | .tBic _ _ => "T_BIC"
  | .tMvn _ _ => "T_MVN"
  | .tAddHi _ _ _ _ => "T_ADD__hi"
  | .tCmpHi _ _ _ _ => "T_CMP__hi"
  | .tMovHi _ _ _ _ => "T_MOV__hi"
  | .tBx _ _ _ _ => "T_BX"
  | .tLdrPc _ _ => "T_LDR__PC-rel"
  | .tStrReg _ _ _ => "T_STR__reg"
  | .tStrbReg _ _ _ => "T_STRB__reg"
  | .tLdrReg _ _ _ => "T_LDR__reg"
  | .tLdrbReg _ _ _ => "T_LDRB__reg"
  | .tStrhReg _ _ _ => "T_STRH__reg"
  | .tLdsbReg _ _ _ => "T_LDSB__reg"
  | .tLdrhReg _ _ _ => "T_LDRH__reg"
  | .tLdshReg _ _ _ => "T_LDSH__reg"
  | .tStrImm _ _ _ => "T_STR__imm"
  | .tLdrImm _ _ _ => "T_LDR__imm"
  | .tStrbImm _ _ _ => "T_STRB__imm"
  | .tLdrbImm _ _ _ => "T_LDRB__imm"
  | .tStrhImm _ _ _ => "T_STRH__imm"
  | .tLdrhImm _ _ _ => "T_LDRH__imm"
  | .tStrSp _ _ => "T_STR__SP-rel"
  | .tLdrSp _ _ => "T_LDR__SP-rel"
  | .tAddPc _ _ => "T_ADD__PC-rel"
  | .tAddSp _ _ => "T_ADD__SP-rel"
  | .tAddSpImm _ => "T_ADD_SP__imm"
  | .tSubSpImm _ => "T_SUB_SP__imm"
  | .tPush _ _ => "T_PUSH"
  | .tPop _ _ => "T_POP"
  | .tUndefU1a _ => "T_UNDEF_T-U1a"
  | .tUndefU1b _ => "T_UNDEF_T-U1b"
  | .tUndefU1c _ => "T_UNDEF_T-U1c"
  | .tUndefU1d _ => "T_UNDEF_T-U1d"
  | .tUndefU1e _ => "T_UNDEF_T-U1e"
  | .tStmia _ _ => "T_STMIA"
  | .tLdmia _ _ => "T_LDMIA"
  | .tBEq _ => "T_BEQ"
  | .tBNe _ => "T_BNE"
  | .tBCs _ => "T_BCS"
  | .tBCc _ => "T_BCC"
  | .tBMi _ => "T_BMI"
  | .tBPl _ => "T_BPL"
  | .tBVs _ => "T_BVS"
  | .tBVc _ => "T_BVC"
  | .tBHi _ => "T_BHI"
  | .tBLs _ => "T_BLS"
  | .tBGe _ => "T_BGE"
  | .tBLt _ => "T_BLT"
  | .tBGt _ => "T_BGT"
  | .tBLe _ => "T_BLE"
  | .tUndefU2 _ => "T_UNDEF_T-U2"
  | .tSwi _ => "T_SWI"
  | .tB _ => "T_B"
  | .tUndefU3 _ => "T_UNDEF_T-U3"
  | .tBlPrefix _ => "T_BL__prefix"
  | .tBlSuffix _ => "T_BL__suffix"

end Sys2Proof.Machine
end

