-- ==== Sys2Proof/Machine/Predict.lean ====
section
/-! DEFINITION. Event-time prediction (R637, R750, R780): clocks until a component next needs attention. It is an
optimisation of the source and changes no result (R658); no step reads it. Log entry 22. -/

namespace Sys2Proof.Machine

/-- The smaller of two predictions; `none` is never. -/
def sooner (a b : Option Nat) : Option Nat :=
  match a, b with
  | none, b => b
  | a, none => a
  | some x, some y => some (min x y)

/-- Ticks until the `k`-th overflow ahead of a timer, `k` from 1 (R771, R780). -/
def Timer.ticksTo (t : Timer) (k : Nat) : Nat := (0x10000 - t.counter.toNat) + (k - 1) * (0x10000 - t.reload.toNat)

/-- `nextOverflow(k)` of a timer (R780), given the prediction of the timer below it. -/
def Timer.predict (t : Timer) (n : Fin 4) (below : Nat → Option Nat) (k : Nat) : Option Nat :=
  if !t.enabled then none
  else if t.clocked n then some ((t.ticksTo k) * 2 ^ prescaleShift t.prescale - t.precounter.toNat)
  else below (t.ticksTo k)

/-- `nextOverflow(k)` (R780): a cascaded timer asks the timer below it. -/
def State.nextOverflow (s : State) (n : Fin 4) : Nat → Option Nat :=
  let p0 := (s.timers.get 0).predict 0 (fun _ => none)
  let p1 := (s.timers.get 1).predict 1 p0
  let p2 := (s.timers.get 2).predict 2 p1
  let p3 := (s.timers.get 3).predict 3 p2
  match n with
  | 0 => p0
  | 1 => p1
  | 2 => p2
  | 3 => p3

/-- Clocks until the next external event that satisfies a test (R637, R750). -/
def State.nextEnv (s : State) (f : EnvEvent → Bool) : Option Nat :=
  (s.env.filter fun x => f x.2).foldl (fun m x => sooner m (some (x.1 - s.clock))) none

/-- The prediction of one source, if its enable bit is set (R637). -/
def State.ifEnabled (s : State) (bit : Nat) (p : Option Nat) : Option Nat := if s.irq.ie.getLsbD bit then p else none

/-- `nextEventTime` of the interrupt controller (R637). -/
def State.nextIrqEvent (s : State) : Option Nat :=
  if !s.irq.ime then none
  else
    sooner (s.ifEnabled 0 (s.nextEnv (· == .request .vblank))) <|
    sooner (s.ifEnabled 1 (s.nextEnv (· == .request .hblank))) <|
    sooner (s.ifEnabled 2 (s.nextEnv (· == .request .vcount))) <|
    sooner (s.ifEnabled 3 (s.nextOverflow 0 1)) <|
    sooner (s.ifEnabled 4 (s.nextOverflow 1 1)) <|
    sooner (s.ifEnabled 5 (s.nextOverflow 2 1)) (s.ifEnabled 6 (s.nextOverflow 3 1))

/-- An external event triggers a type of a channel (R740). -/
def EnvEvent.triggers (e : EnvEvent) (n : Fin 4) (t : BitVec 2) : Bool :=
  match e with
  | .dmaTrigger m u => m == n && u.code == t
  | .fifoRequest c => c.channel == n && t == 3#2
  | _ => false

/-- The prediction of one DMA channel (R750): now if it is ready, else the next event of its trigger type. -/
def State.nextChannelEvent (s : State) (n : Fin 4) : Option Nat :=
  let c := s.dma.get n
  if c.ready then some 0
  else if c.enabledMask = 0 then none
  else s.nextEnv fun e => e.triggers n (ctlTiming c.ctl)

/-- `nextEventTime` of the DMA arbitrator (R750). -/
def State.nextDmaEvent (s : State) : Option Nat :=
  sooner (s.nextChannelEvent 0) <| sooner (s.nextChannelEvent 1) <| sooner (s.nextChannelEvent 2) (s.nextChannelEvent 3)

end Sys2Proof.Machine
end

