-- ==== Sys2Proof/Safety.lean ====
section
/-! DEFINITION. What holds of the machine between steps: the invariant that every step keeps, and the states that runs
from reset reach. -/

namespace Sys2Proof.Machine

/-- A DMA channel's fields agree with one another (R714, R730, R731, R740, R742): the unused control bits read 0, the
armed trigger types are those of the control word, only armed types are pending, the shadows stay in their ranges, and a
pending sound-FIFO block has units left. -/
structure DmaChannel.Ok (n : Fin 4) (c : DmaChannel) : Prop where
  unused : c.ctl &&& 0x1F = 0
  armedTypes : c.enabledMask = if c.ctl.getLsbD 15 then dmaTypeBit n (ctlTiming c.ctl) else 0
  onlyArmed : c.pendingMask &&& ~~~c.enabledMask = 0
  srcRange : c.srcShadow &&& ~~~dmaSrcMask n = 0
  dstRange : c.dstShadow &&& ~~~dmaDstMask n = 0
  cntRange : c.cntShadow &&& ~~~dmaCntMask n = 0
  fifoLeft : fifoChannel n = true → c.pendingMask.getLsbD 3 = true → c.fifoUnits ≠ 0

/-- A timer's accumulator is below one tick of its prescaler while clocks drive it (R777), and always below the longest
tick. -/
structure Timer.Ok (n : Fin 4) (t : Timer) : Prop where
  belowTick : t.clocked n = true → t.precounter.toNat < 2 ^ prescaleShift t.prescale
  belowMax : t.precounter.toNat < 1024

/-- The invariant of the machine between steps. -/
structure State.Inv (s : State) : Prop where
  /-- Memory is in canonical form. -/
  memory : Memory.wf s.mem = true
  /-- `pc` is aligned for the instruction set (R58). -/
  pcAligned : alignTarget s.cpsr.t s.pc = s.pc
  /-- In THUMB state a valid prefetched word is a halfword (R53, R59). -/
  slotExecHalf : s.cpsr.t = true → s.bubble = 0 → s.slotExec.toNat < 2 ^ 16
  /-- In THUMB state a valid prefetched word is a halfword (R53, R59). -/
  slotDecodeHalf : s.cpsr.t = true → s.bubble ≠ 2 → s.slotDecode.toNat < 2 ^ 16
  /-- The armed channel is the lowest-numbered ready one (R741). -/
  arbitrated : s.armed = dmaWinner s.dma
  dma : ∀ n, (s.dma.get n).Ok n
  timers : ∀ n, (s.timers.get n).Ok n
  /-- No cost is left over from a step. -/
  settled : s.stepClocks = 0

/-- The states that steps from one of the two reset states reach. -/
inductive Reachable : State → Prop
  | reset (skipBoot : Bool) : Reachable (State.resetFor skipBoot)
  | step {s t : State} : Reachable s → step s = .next t → Reachable t

end Sys2Proof.Machine
end

