-- ==== Sys2Proof/Certificates/Slice0/Obligations.lean ====
section
/-! DEFINITION. The statements about the machine, and the vocabulary they are written in: what changes and what stays,
results as exact integers, loaded and stored bytes, exception entry. The vocabulary says what a rule says; it calls the
model's meanings nowhere. -/

open Sys2Proof Sys2Proof.Machine

namespace Sys2Proof.Spec

/-! ## What changes and what stays -/

/-- `t` differs from `s` at most in the general registers, CPSR, `pc`, the bubble and the clocks of the step: memory,
devices, SPSRs and everything else are unchanged. -/
def CpuOnly (s t : State) : Prop :=
  t = { s with regs := t.regs, cpsr := t.cpsr, pc := t.pc, bubble := t.bubble, stepClocks := t.stepClocks }

/-- As `CpuOnly`, and the bus remembers another last access (R71). -/
def LoadOnly (s t : State) : Prop :=
  t = { s with
    regs := t.regs, cpsr := t.cpsr, pc := t.pc, bubble := t.bubble, stepClocks := t.stepClocks, busLast := t.busLast }

/-- CPSR, the SPSRs, the prefetched words, the clock and the inputs and outputs are unchanged; memory and devices may
change. -/
def StoreOnly (s t : State) : Prop :=
  t = { s with
    regs := t.regs, pc := t.pc, bubble := t.bubble, stepClocks := t.stepClocks, busLast := t.busLast, mem := t.mem,
    irq := t.irq, dma := t.dma, armed := t.armed, timers := t.timers, halted := t.halted, stopped := t.stopped }

/-- Every physical register is unchanged but those that the names `ds` denote in the mode of `s` (R42). -/
def RegsBut (s t : State) (ds : List RegNo) : Prop :=
  ∀ p : Fin 30, (∀ r ∈ ds, phys s.cpsr.mode r ≠ some p) → t.regs[p] = s.regs[p]

/-- No branch: the instruction leaves the program counter to the step (R54). -/
def Stays (s t : State) : Prop := t.pc = s.pc ∧ t.bubble = s.bubble

/-- A branch (R55): `pc` is the target, aligned down for the instruction set of `t`, and two bubble steps follow. -/
def Jumps (t : State) (a : Word) : Prop :=
  t.bubble = 2 ∧ t.pc.toNat = if t.cpsr.t then a.toNat / 2 * 2 else a.toNat / 4 * 4

/-- A register write (R17, R18): R15 is a branch, any other register holds the value and there is no branch. -/
def Writes (s t : State) (r : RegNo) (v : Word) : Prop :=
  if r = 15#4 then Jumps t v else t.reg r = v ∧ Stays s t

/-! ## Flags and exact results -/

/-- CPSR with N and Z of a result. -/
def nzOf (p : Cpsr) (r : Word) : Cpsr := { p with n := r.getLsbD 31, z := decide (r.toNat = 0) }

/-- The logical flag rule (R226): V unchanged. -/
def logicFlags (p : Cpsr) (r : Word) (sc : Bool) : Cpsr := { nzOf p r with c := sc }

/-- The arithmetic flag rule (R227, R16) by the exact unsigned and signed results: of a sum C says that it does not
fit, of a difference that nothing is borrowed; V says that the signed result does not fit. -/
def arithFlags (p : Cpsr) (adds : Bool) (unsigned signed : Int) : Cpsr :=
  { nzOf p (BitVec.ofInt 32 unsigned) with
    c := if adds then decide (2 ^ 32 ≤ unsigned) else decide (0 ≤ unsigned)
    v := decide (signed < -2 ^ 31 ∨ 2 ^ 31 ≤ signed) }

/-- The arithmetic operations of R232 to R237. -/
inductive ArithOp
  | sub | rsb | add | adc | sbc | rsc
  deriving DecidableEq, Repr

/-- The exact result over the integers, with the carry before the instruction. -/
def ArithOp.exact (o : ArithOp) (a b : Int) (c : Bool) : Int :=
  match o with
  | .sub => a - b
  | .rsb => b - a
  | .add => a + b
  | .adc => a + b + c.toNat
  | .sbc => a - b - (!c).toNat
  | .rsc => b - a - (!c).toNat

/-- The operation is a sum. -/
def ArithOp.adds : ArithOp → Bool
  | .add => true
  | .adc => true
  | _ => false

/-- The 32-bit result. -/
def ArithOp.result (o : ArithOp) (a b : Word) (c : Bool) : Word := BitVec.ofInt 32 (o.exact a.toNat b.toNat c)

/-- CPSR after the flag-setting form. -/
def ArithOp.flags (o : ArithOp) (a b : Word) (p : Cpsr) : Cpsr :=
  arithFlags p o.adds (o.exact a.toNat b.toNat p.c) (o.exact a.toInt b.toInt p.c)

/-- The logical operations of R230, R231 and R242 to R245. -/
inductive LogicOp
  | and | eor | orr | mov | bic | mvn
  deriving DecidableEq, Repr

/-- The result of a logical operation. -/
def LogicOp.result (o : LogicOp) (a b : Word) : Word :=
  match o with
  | .and => a &&& b
  | .eor => a ^^^ b
  | .orr => a ||| b
  | .mov => b
  | .bic => a &&& ~~~b
  | .mvn => ~~~b

/-- The tests and compares of R238 to R241. -/
inductive TestOp
  | tst | teq | cmp | cmn
  deriving DecidableEq, Repr

/-- The three operand forms of a data-processing instruction (R220). -/
inductive Op2
  | imm (rot : BitVec 4) (imm : BitVec 8)
  | shiftImm (n : BitVec 5) (t : Shift) (rm : RegNo)
  | shiftReg (rs : RegNo) (t : Shift) (rm : RegNo)
  deriving DecidableEq, Repr

/-- What a register operand reads: in the register-shift form R15 reads A + 12, four more than otherwise (R224). -/
def Op2.reads (x : Op2) (s : State) (r : RegNo) : Word :=
  match x with
  | .shiftReg _ _ _ => if r = 15#4 then s.pc + 4 else s.reg r
  | _ => s.reg r

/-- The shifter operand and carry (R221, R222, R223); `ShiftedOperands` states what the three functions compute. -/
def Op2.shifted (x : Op2) (s : State) : Shifted :=
  match x with
  | .imm rot k => rotImm rot k s.cpsr.c
  | .shiftImm n t rm => Machine.shiftImm t n (s.reg rm) s.cpsr.c
  | .shiftReg rs t rm => Machine.shiftReg t ((x.reads s rs).setWidth 8) (x.reads s rm) s.cpsr.c

/-- The internal cycles of the form (R832). -/
def Op2.cycles : Op2 → Nat
  | .shiftReg _ _ _ => 1
  | _ => 0

/-- The instruction of an arithmetic operation and an operand form. -/
def ArithOp.instr (o : ArithOp) (x : Op2) (c : Cond) (S : Bool) (rn rd : RegNo) : Instr :=
  match o, x with
  | .sub, .imm rot imm => .subImm c S rn rd rot imm
  | .sub, .shiftImm n t rm => .subShiftImm c S rn rd n t rm
  | .sub, .shiftReg rs t rm => .subShiftReg c S rn rd rs t rm
  | .rsb, .imm rot imm => .rsbImm c S rn rd rot imm
  | .rsb, .shiftImm n t rm => .rsbShiftImm c S rn rd n t rm
  | .rsb, .shiftReg rs t rm => .rsbShiftReg c S rn rd rs t rm
  | .add, .imm rot imm => .addImm c S rn rd rot imm
  | .add, .shiftImm n t rm => .addShiftImm c S rn rd n t rm
  | .add, .shiftReg rs t rm => .addShiftReg c S rn rd rs t rm
  | .adc, .imm rot imm => .adcImm c S rn rd rot imm
  | .adc, .shiftImm n t rm => .adcShiftImm c S rn rd n t rm
  | .adc, .shiftReg rs t rm => .adcShiftReg c S rn rd rs t rm
  | .sbc, .imm rot imm => .sbcImm c S rn rd rot imm
  | .sbc, .shiftImm n t rm => .sbcShiftImm c S rn rd n t rm
  | .sbc, .shiftReg rs t rm => .sbcShiftReg c S rn rd rs t rm
  | .rsc, .imm rot imm => .rscImm c S rn rd rot imm
  | .rsc, .shiftImm n t rm => .rscShiftImm c S rn rd n t rm
  | .rsc, .shiftReg rs t rm => .rscShiftReg c S rn rd rs t rm

/-- The instruction of a logical operation and an operand form. -/
def LogicOp.instr (o : LogicOp) (x : Op2) (c : Cond) (S : Bool) (rn rd : RegNo) : Instr :=
  match o, x with
  | .and, .imm rot imm => .andImm c S rn rd rot imm
  | .and, .shiftImm n t rm => .andShiftImm c S rn rd n t rm
  | .and, .shiftReg rs t rm => .andShiftReg c S rn rd rs t rm
  | .eor, .imm rot imm => .eorImm c S rn rd rot imm
  | .eor, .shiftImm n t rm => .eorShiftImm c S rn rd n t rm
  | .eor, .shiftReg rs t rm => .eorShiftReg c S rn rd rs t rm
  | .orr, .imm rot imm => .orrImm c S rn rd rot imm
  | .orr, .shiftImm n t rm => .orrShiftImm c S rn rd n t rm
  | .orr, .shiftReg rs t rm => .orrShiftReg c S rn rd rs t rm
  | .mov, .imm rot imm => .movImm c S rn rd rot imm
  | .mov, .shiftImm n t rm => .movShiftImm c S rn rd n t rm
  | .mov, .shiftReg rs t rm => .movShiftReg c S rn rd rs t rm
  | .bic, .imm rot imm => .bicImm c S rn rd rot imm
  | .bic, .shiftImm n t rm => .bicShiftImm c S rn rd n t rm
  | .bic, .shiftReg rs t rm => .bicShiftReg c S rn rd rs t rm
  | .mvn, .imm rot imm => .mvnImm c S rn rd rot imm
  | .mvn, .shiftImm n t rm => .mvnShiftImm c S rn rd n t rm
  | .mvn, .shiftReg rs t rm => .mvnShiftReg c S rn rd rs t rm

/-- The instruction of a test or compare and an operand form. -/
def TestOp.instr (o : TestOp) (x : Op2) (c : Cond) (rn rd : RegNo) : Instr :=
  match o, x with
  | .tst, .imm rot imm => .tstImm c rn rd rot imm
  | .tst, .shiftImm n t rm => .tstShiftImm c rn rd n t rm
  | .tst, .shiftReg rs t rm => .tstShiftReg c rn rd rs t rm
  | .teq, .imm rot imm => .teqImm c rn rd rot imm
  | .teq, .shiftImm n t rm => .teqShiftImm c rn rd n t rm
  | .teq, .shiftReg rs t rm => .teqShiftReg c rn rd rs t rm
  | .cmp, .imm rot imm => .cmpImm c rn rd rot imm
  | .cmp, .shiftImm n t rm => .cmpShiftImm c rn rd n t rm
  | .cmp, .shiftReg rs t rm => .cmpShiftReg c rn rd rs t rm
  | .cmn, .imm rot imm => .cmnImm c rn rd rot imm
  | .cmn, .shiftImm n t rm => .cmnShiftImm c rn rd n t rm
  | .cmn, .shiftReg rs t rm => .cmnShiftReg c rn rd rs t rm

/-- The CPSR a test or compare leaves. -/
def TestOp.flags (o : TestOp) (a : Word) (b : Shifted) (p : Cpsr) : Cpsr :=
  match o with
  | .tst => logicFlags p (a &&& b.op2) b.sc
  | .teq => logicFlags p (a ^^^ b.op2) b.sc
  | .cmp => ArithOp.flags .sub a b.op2 p
  | .cmn => ArithOp.flags .add a b.op2 p

/-- The twelve operations that write a register. -/
inductive DpOp
  | arith (o : ArithOp)
  | logic (o : LogicOp)
  deriving DecidableEq, Repr

/-- The instruction of an operation and an operand form. -/
def DpOp.instr (o : DpOp) (x : Op2) (c : Cond) (S : Bool) (rn rd : RegNo) : Instr :=
  match o with
  | .arith o => o.instr x c S rn rd
  | .logic o => o.instr x c S rn rd

/-- The result of an operation. -/
def DpOp.result (o : DpOp) (a b : Word) (c : Bool) : Word :=
  match o with
  | .arith o => o.result a b c
  | .logic o => o.result a b

/-! ## Status words -/

/-- CPSR is the SPSR of the mode (R615): every field, but a mode field that is no mode leaves M (R47); User and System
have no SPSR and leave CPSR (R49). -/
def Restored (s t : State) : Prop :=
  match s.spsr.get? s.cpsr.mode with
  | none => t.cpsr = s.cpsr
  | some p =>
    t.cpsr.n = p.flags.getLsbD 3 ∧ t.cpsr.z = p.flags.getLsbD 2 ∧ t.cpsr.c = p.flags.getLsbD 1 ∧
    t.cpsr.v = p.flags.getLsbD 0 ∧ t.cpsr.i = p.ctrl.getLsbD 7 ∧ t.cpsr.f = p.ctrl.getLsbD 6 ∧
    t.cpsr.t = p.ctrl.getLsbD 5 ∧ t.cpsr.mode = (Mode.ofCode (p.ctrl.extractLsb' 0 5)).getD s.cpsr.mode

/-- The word an SPSR holds when CPSR is saved in it (R603). -/
def savedWord (p : Cpsr) : Spsr :=
  { flags := BitVec.ofBool p.n ++ BitVec.ofBool p.z ++ BitVec.ofBool p.c ++ BitVec.ofBool p.v
    ctrl := BitVec.ofBool p.i ++ BitVec.ofBool p.f ++ BitVec.ofBool p.t ++ p.mode.code }

/-- Exception entry (R603, R604): the old CPSR in the SPSR of the new mode, `lr` in its R14, T clear, I set, F set or
kept, the vector in `pc`, two bubble steps; nothing else but the clocks of the step. -/
def Enters (s t : State) (m : Mode) (vector lr : Word) (f : Bool) : Prop :=
  t = { s with
    regs := t.regs, cpsr := { s.cpsr with mode := m, t := false, i := true, f := f }, spsr := t.spsr, pc := vector,
    bubble := 2, stepClocks := t.stepClocks, busLast := none } ∧
  t.reg 14#4 = lr ∧ (∀ p : Fin 30, phys m 14#4 ≠ some p → t.regs[p] = s.regs[p]) ∧
  t.spsr.get? m = some (savedWord s.cpsr) ∧
  t.spsr.fiq = (if m = .fiq then savedWord s.cpsr else s.spsr.fiq) ∧
  t.spsr.svc = (if m = .svc then savedWord s.cpsr else s.spsr.svc) ∧
  t.spsr.abt = (if m = .abt then savedWord s.cpsr else s.spsr.abt) ∧
  t.spsr.irq = (if m = .irq then savedWord s.cpsr else s.spsr.irq) ∧
  t.spsr.und = (if m = .und then savedWord s.cpsr else s.spsr.und)

/-! ## Loads -/

/-- The clocks of one access (R126): sequential when the last access was by the same agent, of the same width, just
below (R71). -/
def cost (s : State) (g : Agent) (a : Word) (w : Width) (k : AccessKind) : Nat :=
  Config.busCost g a w k (decide (s.busLast = some ⟨g, a - BitVec.ofNat 32 w.bytes, w⟩))

/-- The word at an address that is a multiple of 4, little-endian (R106). -/
def wordAt (s : State) (a : Nat) : Word := s.byteAt (a + 3) ++ s.byteAt (a + 2) ++ s.byteAt (a + 1) ++ s.byteAt a

/-- What a load returns, byte by byte (R108, R109): a misaligned word is the aligned word rotated so that the byte at
the address comes lowest, an odd halfword likewise, an odd signed halfword is the byte there. -/
def loaded (s : State) (k : LoadKind) (a : Word) : Word :=
  let n := a.toNat
  match k with
  | .word =>
    let b := n / 4 * 4
    s.byteAt (b + (n + 3) % 4) ++ s.byteAt (b + (n + 2) % 4) ++ s.byteAt (b + (n + 1) % 4) ++ s.byteAt (b + n % 4)
  | .half =>
    if n % 2 = 0 then (0#16 ++ (s.byteAt (n + 1) ++ s.byteAt n) : Word)
    else (s.byteAt (n - 1) ++ (0#16 ++ s.byteAt n) : Word)
  | .byte => (0#24 ++ s.byteAt n : Word)
  | .signedHalf => BitVec.ofInt 32 (if n % 2 = 0 then (s.byteAt (n + 1) ++ s.byteAt n).toInt else (s.byteAt n).toInt)
  | .signedByte => BitVec.ofInt 32 (s.byteAt n).toInt

/-- The address and width of a load's one access (R108, R109, R112). -/
def loadAccessOf (k : LoadKind) (a : Word) : Word × Width :=
  match k with
  | .word => (BitVec.ofNat 32 (a.toNat / 4 * 4), .word)
  | .half => (BitVec.ofNat 32 (a.toNat / 2 * 2), .half)
  | .byte => (a, .byte)
  | .signedHalf => if a.toNat % 2 = 0 then (a, .half) else (a, .byte)
  | .signedByte => (a, .byte)

/-- A load makes one read access and takes one internal cycle (R831, R832). -/
def LoadCost (s t : State) (k : LoadKind) (a : Word) : Prop :=
  t.stepClocks = s.stepClocks + cost s .cpu (loadAccessOf k a).1 (loadAccessOf k a).2 .read + 1 ∧
  t.busLast = some ⟨.cpu, (loadAccessOf k a).1, (loadAccessOf k a).2⟩

/-- How a transfer forms its address (R320): pre-indexed or not, up or down, written back or not, and the offset. -/
structure Indexing where
  pre : Bool
  up : Bool
  wback : Bool
  offset : Word

/-- The base with the offset applied. -/
def Indexing.offAddr (x : Indexing) (base : Word) : Word := if x.up then base + x.offset else base - x.offset

/-- The address of the access. -/
def Indexing.addr (x : Indexing) (base : Word) : Word := if x.pre then x.offAddr base else base

/-- The six forms of a word or byte transfer (R152): immediate or shifted register offset; pre-indexed, post-indexed,
or the T form. -/
inductive Address
  | immPre (u w : Bool) (off : BitVec 12)
  | immPost (u : Bool) (off : BitVec 12)
  | regPre (u w : Bool) (n : BitVec 5) (t : Shift) (rm : RegNo)
  | regPost (u : Bool) (n : BitVec 5) (t : Shift) (rm : RegNo)
  | immUser (u : Bool) (off : BitVec 12)
  | regUser (u : Bool) (n : BitVec 5) (t : Shift) (rm : RegNo)
  deriving DecidableEq, Repr

/-- The address computation of a form (R320, R162). -/
def Address.indexing (m : Address) (s : State) : Indexing :=
  match m with
  | .immPre u w off => ⟨true, u, w, BitVec.ofNat 32 off.toNat⟩
  | .immPost u off => ⟨false, u, true, BitVec.ofNat 32 off.toNat⟩
  | .regPre u w n t rm => ⟨true, u, w, (Machine.shiftImm t n (s.reg rm) s.cpsr.c).op2⟩
  | .regPost u n t rm => ⟨false, u, true, (Machine.shiftImm t n (s.reg rm) s.cpsr.c).op2⟩
  | .immUser u off => ⟨false, u, true, BitVec.ofNat 32 off.toNat⟩
  | .regUser u n t rm => ⟨false, u, true, (Machine.shiftImm t n (s.reg rm) s.cpsr.c).op2⟩

/-- The address computation of a halfword or signed transfer (R330): post-indexed always writes back. -/
def halfIndexing (p u w : Bool) (off : HalfOff) (s : State) : Indexing :=
  ⟨p, u, !p || w,
    match off with
    | .imm hi lo => BitVec.ofNat 32 (16 * hi.toNat + lo.toNat)
    | .reg _ rm => s.reg rm⟩

/-- The ARM load instructions. -/
inductive LoadForm
  | word (m : Address)
  | byte (m : Address)
  | half (p u w : Bool) (off : HalfOff)
  | signedByte (p u w : Bool) (off : HalfOff)
  | signedHalf (p u w : Bool) (off : HalfOff)
  deriving DecidableEq, Repr

/-- The instruction of a load form. -/
def LoadForm.instr (f : LoadForm) (c : Cond) (rn rd : RegNo) : Instr :=
  match f with
  | .word (.immPre u w off) => .ldrImmPre c u w rn rd off
  | .word (.immPost u off) => .ldrImmPost c u rn rd off
  | .word (.regPre u w n t rm) => .ldrRegPre c u w rn rd n t rm
  | .word (.regPost u n t rm) => .ldrRegPost c u rn rd n t rm
  | .word (.immUser u off) => .ldrtImm c u rn rd off
  | .word (.regUser u n t rm) => .ldrtReg c u rn rd n t rm
  | .byte (.immPre u w off) => .ldrbImmPre c u w rn rd off
  | .byte (.immPost u off) => .ldrbImmPost c u rn rd off
  | .byte (.regPre u w n t rm) => .ldrbRegPre c u w rn rd n t rm
  | .byte (.regPost u n t rm) => .ldrbRegPost c u rn rd n t rm
  | .byte (.immUser u off) => .ldrbtImm c u rn rd off
  | .byte (.regUser u n t rm) => .ldrbtReg c u rn rd n t rm
  | .half p u w off => .ldrh c p u w rn rd off
  | .signedByte p u w off => .ldrsb c p u w rn rd off
  | .signedHalf p u w off => .ldrsh c p u w rn rd off

/-- What a load form loads. -/
def LoadForm.kind : LoadForm → LoadKind
  | .word _ => .word
  | .byte _ => .byte
  | .half _ _ _ _ => .half
  | .signedByte _ _ _ _ => .signedByte
  | .signedHalf _ _ _ _ => .signedHalf

/-- The address computation of a load form. -/
def LoadForm.indexing (f : LoadForm) (s : State) : Indexing :=
  match f with
  | .word m => m.indexing s
  | .byte m => m.indexing s
  | .half p u w off => halfIndexing p u w off s
  | .signedByte p u w off => halfIndexing p u w off s
  | .signedHalf p u w off => halfIndexing p u w off s

/-- The effect of a load of `v` (R321): the base is written back, then Rd is written, so a loaded base wins; R15 loaded
is a branch, else R15 written back is one. -/
def LoadEffect (s t : State) (x : Indexing) (rn rd : RegNo) (v : Word) : Prop :=
  LoadOnly s t ∧ t.cpsr = s.cpsr ∧ RegsBut s t (if x.wback then [rd, rn] else [rd]) ∧
  (rd ≠ 15#4 → t.reg rd = v) ∧
  (x.wback = true → rn ≠ 15#4 → rn ≠ rd → t.reg rn = x.offAddr (s.reg rn)) ∧
  if rd = 15#4 then Jumps t v
  else if x.wback = true ∧ rn = 15#4 then Jumps t (x.offAddr (s.reg rn))
  else Stays s t

/-! ## Stores -/

/-- One store: the address of its first byte, its width in bytes and the value. -/
structure Put where
  addr : Nat
  bytes : Nat
  value : Word

/-- The device state of `t` is that of `u`. -/
def SameDevices (t u : State) : Prop :=
  t.irq = u.irq ∧ t.dma = u.dma ∧ t.armed = u.armed ∧ t.timers = u.timers ∧ t.halted = u.halted ∧ t.stopped = u.stopped

/-- What stores do to memory (R106, R701): each stored byte that is not the block's holds its byte of the value; every
other byte of memory is unchanged. -/
def StoredBytes (s t : State) (ws : List Put) : Prop :=
  (∀ w ∈ ws, ∀ j < w.bytes, isIo (w.addr + j) = false →
    Memory.read t.mem (w.addr + j) = BitVec.ofNat 8 (w.value.toNat / 2 ^ (8 * j))) ∧
  (∀ a, (isIo a = true ∨ ∀ w ∈ ws, a < w.addr ∨ w.addr + w.bytes ≤ a) → Memory.read t.mem a = Memory.read s.mem a)

/-- What stores do, in order, to memory and devices (R701, R702): bytes of the block go to its registers, and stores
that cover none leave the devices alone. -/
def Stored (s t : State) (ws : List Put) : Prop :=
  StoredBytes s t ws ∧
  SameDevices t (ws.foldl (fun u w => u.ioWrite w.addr w.bytes w.value) s) ∧
  ((∀ w ∈ ws, ∀ j < w.bytes, isIo (w.addr + j) = false) → SameDevices t s)

/-- The ARM store instructions. -/
inductive StoreForm
  | word (m : Address)
  | byte (m : Address)
  | half (p u w : Bool) (off : HalfOff)
  deriving DecidableEq, Repr

/-- The instruction of a store form. -/
def StoreForm.instr (f : StoreForm) (c : Cond) (rn rd : RegNo) : Instr :=
  match f with
  | .word (.immPre u w off) => .strImmPre c u w rn rd off
  | .word (.immPost u off) => .strImmPost c u rn rd off
  | .word (.regPre u w n t rm) => .strRegPre c u w rn rd n t rm
  | .word (.regPost u n t rm) => .strRegPost c u rn rd n t rm
  | .word (.immUser u off) => .strtImm c u rn rd off
  | .word (.regUser u n t rm) => .strtReg c u rn rd n t rm
  | .byte (.immPre u w off) => .strbImmPre c u w rn rd off
  | .byte (.immPost u off) => .strbImmPost c u rn rd off
  | .byte (.regPre u w n t rm) => .strbRegPre c u w rn rd n t rm
  | .byte (.regPost u n t rm) => .strbRegPost c u rn rd n t rm
  | .byte (.immUser u off) => .strbtImm c u rn rd off
  | .byte (.regUser u n t rm) => .strbtReg c u rn rd n t rm
  | .half p u w off => .strh c p u w rn rd off

/-- The address computation of a store form. -/
def StoreForm.indexing (f : StoreForm) (s : State) : Indexing :=
  match f with
  | .word m => m.indexing s
  | .byte m => m.indexing s
  | .half p u w off => halfIndexing p u w off s

/-- What a store form stores. -/
def StoreForm.kind : StoreForm → StoreKind
  | .word _ => .word
  | .byte _ => .byte
  | .half _ _ _ _ => .half

/-- The one store of a word, halfword or byte at an address (R108, R109): aligned down, never rotated. -/
def putOf (k : StoreKind) (a v : Word) : Put :=
  match k with
  | .word => ⟨a.toNat / 4 * 4, 4, v⟩
  | .half => ⟨a.toNat / 2 * 2, 2, v⟩
  | .byte => ⟨a.toNat, 1, v⟩

/-- The clocks of a store (R831): one write access. -/
def StoreCost (s t : State) (k : StoreKind) (a : Word) : Prop :=
  match k with
  | .word => t.stepClocks = s.stepClocks + cost s .cpu (BitVec.ofNat 32 (a.toNat / 4 * 4)) .word .write
  | .half => t.stepClocks = s.stepClocks + cost s .cpu (BitVec.ofNat 32 (a.toNat / 2 * 2)) .half .write
  | .byte => t.stepClocks = s.stepClocks + cost s .cpu a .byte .write

/-- The effect of a writeback alone: the base, or a branch when it is R15 (R321). -/
def BaseEffect (s t : State) (wback : Bool) (rn : RegNo) (v : Word) : Prop :=
  RegsBut s t (if wback then [rn] else []) ∧ if wback then Writes s t rn v else Stays s t

/-! ## Block transfers -/

/-- How many registers below `i` the list names. -/
def below (l : BitVec 16) (i : Nat) : Nat := ((List.range i).filter fun j => l.getLsbD j).length

/-- The list moves register `i`: an empty list moves R15 only (R343). -/
def moves (l : BitVec 16) (i : Nat) : Bool := if l = 0 then i == 15 else l.getLsbD i

/-- Four bytes for each register of the list, sixteen words for an empty one (R340, R343). -/
def span (l : BitVec 16) : Word := BitVec.ofNat 32 (4 * if l = 0 then 16 else below l 16)

/-- The first address (R340). -/
def firstAddr (p u : Bool) (base n : Word) : Word :=
  if u then (if p then base + 4 else base) else (if p then base - n else base - n + 4)

/-- The writeback value (R340). -/
def lastAddr (u : Bool) (base n : Word) : Word := if u then base + n else base - n

/-- The address of the word of register `i`: ascending registers at ascending addresses, aligned down (R340). -/
def slotOf (l : BitVec 16) (p u : Bool) (base : Word) (i : Nat) : Nat :=
  (firstAddr p u base (span l) + BitVec.ofNat 32 (4 * below l i)).toNat / 4 * 4

/-- The effect of a block load (R341, R343): each listed register, of the User bank when `S` holds and R15 is not
listed, holds its word; the base is written back unless it is loaded; R15 loaded is a branch, with `S` an exception
return. -/
def LdmEffect (s t : State) (p u S w : Bool) (rn : RegNo) (l : BitVec 16) : Prop :=
  let base := s.reg rn
  let final := lastAddr u base (span l)
  let bank : Mode := if S = true ∧ moves l 15 = false then .user else s.cpsr.mode
  let word (i : Nat) : Word := wordAt s (slotOf l p u base i)
  LoadOnly s t ∧
  (∀ i < 15, moves l i = true → ∀ q : Fin 30, phys bank (BitVec.ofNat 4 i) = some q → t.regs[q] = word i) ∧
  (∀ q : Fin 30, (∀ i < 15, moves l i = true → phys bank (BitVec.ofNat 4 i) ≠ some q) →
    t.regs[q] = if w = true ∧ phys s.cpsr.mode rn = some q then final else s.regs[q]) ∧
  if moves l 15 = true then (if S = true then Restored s t else t.cpsr = s.cpsr) ∧ Jumps t (word 15)
  else t.cpsr = s.cpsr ∧ if w = true ∧ rn = 15#4 then Jumps t final else Stays s t

/-- The word a block store stores for register `i` (R342, R343): a base that is written back and is not the lowest of
the list stores the final value, R15 stores `pcValue`, with `S` the User bank is read. -/
def stmWord (s : State) (S w : Bool) (rn : RegNo) (l : BitVec 16) (final pcValue : Word) (i : Nat) : Word :=
  let r : RegNo := BitVec.ofNat 4 i
  if r = rn ∧ w = true ∧ below l i ≠ 0 then final
  else if i = 15 then pcValue
  else if S then s.userReg r
  else s.reg r

/-- The effect of a block store (R342, R343). -/
def StmEffect (s t : State) (p u S w : Bool) (rn : RegNo) (l : BitVec 16) (pcValue : Word) : Prop :=
  let base := s.reg rn
  let final := lastAddr u base (span l)
  StoreOnly s t ∧ BaseEffect s t w rn final ∧
  Stored s t (((List.range 16).filter fun i => moves l i).map fun i =>
    ⟨slotOf l p u base i, 4, stmWord s S w rn l final pcValue i⟩)

/-! ## Steps -/

/-- Nothing comes before the CPU in this step (R650): no external event is due, the machine is not in STOP and no DMA
channel is armed. -/
def Quiet (s : State) : Prop := (∀ x ∈ s.env, s.clock < x.1) ∧ s.stopped = false ∧ s.armed = none

/-- The interrupt controller asks for an IRQ (R61). -/
def IrqRaised (s : State) : Prop := s.irq.ie &&& s.irq.ifl ≠ 0 ∧ s.irq.ime = true

/-- The CPU takes its turn (R650): no bubble, and not halted without a request. -/
def CpuTurn (s : State) : Prop := Quiet s ∧ s.bubble = 0 ∧ (s.halted = true → s.irq.ie &&& s.irq.ifl ≠ 0)

/-- The word fetched at `pc` (R103, R59). -/
def fetched (s : State) : Word :=
  if s.cpsr.t then (0#16 ++ (s.byteAt (s.pc.toNat + 1) ++ s.byteAt s.pc.toNat) : Word) else wordAt s s.pc.toNat

/-- The state after the fetch at `pc` (R103, R71); its access kind is the model's choice, log entry 34. -/
def afterFetch (s : State) : State :=
  { s with
    lastFetch := fetched s
    stepClocks := s.stepClocks + cost s .cpu s.pc (if s.cpsr.t then .half else .word) .fetch
    busLast := some ⟨.cpu, s.pc, if s.cpsr.t then .half else .word⟩ }

/-- The width of an instruction (R53). -/
def width (s : State) : Word := if s.cpsr.t then 2 else 4

/-- The clocks of a step are charged, and the timers advance by them (R650). -/
def charged (s : State) : State := ({ s with stepClocks := 0 } : State).charge s.stepClocks

/-! ## Devices -/

/-- A timer's counter after `k` ticks from `c`, with reload `r` (R771). -/
def counterAfter (c r k : Nat) : Nat :=
  if k < 0x10000 - c then c + k else r + (k - (0x10000 - c)) % (0x10000 - r)

/-- How many of those ticks overflow. -/
def overflowsIn (c r k : Nat) : Nat :=
  if k < 0x10000 - c then 0 else 1 + (k - (0x10000 - c)) / (0x10000 - r)


/-- The bit of a trigger type (R740): channel 0 has no special trigger. -/
def typeBit (n : Fin 4) (t : BitVec 2) : BitVec 4 := if n = 0 ∧ t = 3#2 then 0 else BitVec.ofNat 4 (2 ^ t.toNat)

/-- The lowest-numbered channel with an enabled trigger pending is armed (R741, R743). -/
def Arbitrated (t : State) : Prop :=
  ∀ n : Fin 4, t.armed = some n ↔
    ((t.dma.get n).enabledMask &&& (t.dma.get n).pendingMask ≠ 0 ∧
      ∀ m : Fin 4, m < n → (t.dma.get m).enabledMask &&& (t.dma.get m).pendingMask = 0)

/-- A shadow address after a unit (R746, R730): code 1 goes down, code 2 stays, the others go up; then the mask. -/
def movedShadow (code : BitVec 2) (a size mask : Word) : Word :=
  (if code = 1#2 then a - size else if code = 2#2 then a else a + size) &&& mask

/-! ## Families of instructions -/

/-- SWI of both instruction sets. -/
def swiInstr : Instr → Bool
  | .swi _ _ => true
  | .tSwi _ => true
  | _ => false

/-- The undefined encodings and the coprocessor instructions (R175, R176, R383 to R388, R506). -/
def undefinedInstr : Instr → Bool
  | .cdp _ _ _ _ _ _ _ => true
  | .ldc _ _ _ _ _ _ _ _ _ => true
  | .stc _ _ _ _ _ _ _ _ _ => true
  | .mcr _ _ _ _ _ _ _ => true
  | .mrc _ _ _ _ _ _ _ => true
  | .undefU1 _ _ _ _ => true
  | .undefU2 _ _ _ _ _ => true
  | .undefU3 _ _ _ _ _ => true
  | .undefU4 _ _ _ => true
  | .undefU5 _ _ _ => true
  | .tUndefU1a _ => true
  | .tUndefU1b _ => true
  | .tUndefU1c _ => true
  | .tUndefU1d _ => true
  | .tUndefU1e _ => true
  | .tUndefU2 _ => true
  | .tUndefU3 _ => true
  | _ => false

/-- A THUMB low register as a register number. -/
def low (r : LowReg) : RegNo := BitVec.ofNat 4 r.toNat

/-- A register of format 5: the H flag adds 8 (R429). -/
def high (h : Bool) (r : LowReg) : RegNo := BitVec.ofNat 4 (8 * h.toNat + r.toNat)

/-- The THUMB arithmetic instructions that write a register. -/
inductive TArith
  | addReg (rn rs rd : LowReg)
  | subReg (rn rs rd : LowReg)
  | addImm3 (i : BitVec 3) (rs rd : LowReg)
  | subImm3 (i : BitVec 3) (rs rd : LowReg)
  | addImm8 (rd : LowReg) (i : BitVec 8)
  | subImm8 (rd : LowReg) (i : BitVec 8)
  | adc (rs rd : LowReg)
  | sbc (rs rd : LowReg)
  | neg (rs rd : LowReg)
  deriving DecidableEq, Repr

/-- One THUMB arithmetic instruction by its rule: the instruction, what it computes, its operands and destination. -/
structure TForm where
  instr : Instr
  op : ArithOp
  a : Word
  b : Word
  rd : LowReg

/-- R403 to R406, R409, R410, R416, R417, R420. -/
def TArith.form (f : TArith) (s : State) : TForm :=
  match f with
  | .addReg rn rs rd => ⟨.tAddReg rn rs rd, .add, s.reg (low rs), s.reg (low rn), rd⟩
  | .subReg rn rs rd => ⟨.tSubReg rn rs rd, .sub, s.reg (low rs), s.reg (low rn), rd⟩
  | .addImm3 i rs rd => ⟨.tAddImm3 i rs rd, .add, s.reg (low rs), BitVec.ofNat 32 i.toNat, rd⟩
  | .subImm3 i rs rd => ⟨.tSubImm3 i rs rd, .sub, s.reg (low rs), BitVec.ofNat 32 i.toNat, rd⟩
  | .addImm8 rd i => ⟨.tAddImm8 rd i, .add, s.reg (low rd), BitVec.ofNat 32 i.toNat, rd⟩
  | .subImm8 rd i => ⟨.tSubImm8 rd i, .sub, s.reg (low rd), BitVec.ofNat 32 i.toNat, rd⟩
  | .adc rs rd => ⟨.tAdc rs rd, .adc, s.reg (low rd), s.reg (low rs), rd⟩
  | .sbc rs rd => ⟨.tSbc rs rd, .sbc, s.reg (low rd), s.reg (low rs), rd⟩
  | .neg rs rd => ⟨.tNeg rs rd, .sub, 0, s.reg (low rs), rd⟩

/-- The THUMB compares. -/
inductive TCompare
  | cmpImm8 (rd : LowReg) (i : BitVec 8)
  | cmp (rs rd : LowReg)
  | cmn (rs rd : LowReg)
  | cmpHi (h1 h2 : Bool) (rs rd : LowReg)
  deriving DecidableEq, Repr

/-- The instruction of a compare. -/
def TCompare.instr : TCompare → Instr
  | .cmpImm8 rd i => .tCmpImm8 rd i
  | .cmp rs rd => .tCmp rs rd
  | .cmn rs rd => .tCmn rs rd
  | .cmpHi h1 h2 rs rd => .tCmpHi h1 h2 rs rd

/-- The CPSR a compare leaves (R408, R421, R422, R431). -/
def TCompare.flags (f : TCompare) (s : State) : Cpsr :=
  match f with
  | .cmpImm8 rd i => ArithOp.flags .sub (s.reg (low rd)) (BitVec.ofNat 32 i.toNat) s.cpsr
  | .cmp rs rd => ArithOp.flags .sub (s.reg (low rd)) (s.reg (low rs)) s.cpsr
  | .cmn rs rd => ArithOp.flags .add (s.reg (low rd)) (s.reg (low rs)) s.cpsr
  | .cmpHi h1 h2 rs rd => ArithOp.flags .sub (s.reg (high h1 rd)) (s.reg (high h2 rs)) s.cpsr

/-- The THUMB logical instructions that write a register. -/
inductive TLogic
  | and (rs rd : LowReg)
  | eor (rs rd : LowReg)
  | orr (rs rd : LowReg)
  | bic (rs rd : LowReg)
  | mvn (rs rd : LowReg)
  | movImm8 (rd : LowReg) (i : BitVec 8)
  deriving DecidableEq, Repr

/-- The instruction of a logical form. -/
def TLogic.instr : TLogic → Instr
  | .and rs rd => .tAnd rs rd
  | .eor rs rd => .tEor rs rd
  | .orr rs rd => .tOrr rs rd
  | .bic rs rd => .tBic rs rd
  | .mvn rs rd => .tMvn rs rd
  | .movImm8 rd i => .tMovImm8 rd i

/-- The destination of a logical form. -/
def TLogic.rd : TLogic → LowReg
  | .and _ rd => rd
  | .eor _ rd => rd
  | .orr _ rd => rd
  | .bic _ rd => rd
  | .mvn _ rd => rd
  | .movImm8 rd _ => rd

/-- The result of a logical form (R407, R411, R412, R423, R425, R426). -/
def TLogic.result (f : TLogic) (s : State) : Word :=
  match f with
  | .and rs rd => s.reg (low rd) &&& s.reg (low rs)
  | .eor rs rd => s.reg (low rd) ^^^ s.reg (low rs)
  | .orr rs rd => s.reg (low rd) ||| s.reg (low rs)
  | .bic rs rd => s.reg (low rd) &&& ~~~s.reg (low rs)
  | .mvn rs _ => ~~~s.reg (low rs)
  | .movImm8 _ i => BitVec.ofNat 32 i.toNat

/-- The THUMB shift of a type by an immediate; format 1 has no ROR. -/
def tShiftImmInstr (t : Shift) (n : BitVec 5) (rs rd : LowReg) : Option Instr :=
  match t with
  | .lsl => some (.tLslImm n rs rd)
  | .lsr => some (.tLsrImm n rs rd)
  | .asr => some (.tAsrImm n rs rd)
  | .ror => none

/-- The THUMB shift of a type by a register (format 4). -/
def tShiftRegInstr (t : Shift) (rs rd : LowReg) : Instr :=
  match t with
  | .lsl => .tLsl rs rd
  | .lsr => .tLsr rs rd
  | .asr => .tAsr rs rd
  | .ror => .tRor rs rd

/-- The THUMB loads. -/
inductive TLoad
  | pc (rd : LowReg) (k : BitVec 8)
  | reg (ro rb rd : LowReg)
  | byteReg (ro rb rd : LowReg)
  | halfReg (ro rb rd : LowReg)
  | signedByteReg (ro rb rd : LowReg)
  | signedHalfReg (ro rb rd : LowReg)
  | imm (off : BitVec 5) (rb rd : LowReg)
  | byteImm (off : BitVec 5) (rb rd : LowReg)
  | halfImm (off : BitVec 5) (rb rd : LowReg)
  | sp (rd : LowReg) (k : BitVec 8)
  deriving DecidableEq, Repr

/-- One THUMB load or store by its rule: the instruction, what it moves, the address and the register. -/
structure TMove (κ : Type) where
  instr : Instr
  kind : κ
  addr : Word
  rd : LowReg

/-- R460, R464, R465, R467 to R469, R471, R473, R475, R477: format 6 reads the word-aligned R15. -/
def TLoad.form (f : TLoad) (s : State) : TMove LoadKind :=
  match f with
  | .pc rd k => ⟨.tLdrPc rd k, .word, BitVec.ofNat 32 (s.pc.toNat / 4 * 4 + 4 * k.toNat), rd⟩
  | .reg ro rb rd => ⟨.tLdrReg ro rb rd, .word, s.reg (low rb) + s.reg (low ro), rd⟩
  | .byteReg ro rb rd => ⟨.tLdrbReg ro rb rd, .byte, s.reg (low rb) + s.reg (low ro), rd⟩
  | .halfReg ro rb rd => ⟨.tLdrhReg ro rb rd, .half, s.reg (low rb) + s.reg (low ro), rd⟩
  | .signedByteReg ro rb rd => ⟨.tLdsbReg ro rb rd, .signedByte, s.reg (low rb) + s.reg (low ro), rd⟩
  | .signedHalfReg ro rb rd => ⟨.tLdshReg ro rb rd, .signedHalf, s.reg (low rb) + s.reg (low ro), rd⟩
  | .imm off rb rd => ⟨.tLdrImm off rb rd, .word, s.reg (low rb) + BitVec.ofNat 32 (4 * off.toNat), rd⟩
  | .byteImm off rb rd => ⟨.tLdrbImm off rb rd, .byte, s.reg (low rb) + BitVec.ofNat 32 off.toNat, rd⟩
  | .halfImm off rb rd => ⟨.tLdrhImm off rb rd, .half, s.reg (low rb) + BitVec.ofNat 32 (2 * off.toNat), rd⟩
  | .sp rd k => ⟨.tLdrSp rd k, .word, s.reg 13#4 + BitVec.ofNat 32 (4 * k.toNat), rd⟩

/-- The THUMB stores. -/
inductive TStore
  | reg (ro rb rd : LowReg)
  | byteReg (ro rb rd : LowReg)
  | halfReg (ro rb rd : LowReg)
  | imm (off : BitVec 5) (rb rd : LowReg)
  | byteImm (off : BitVec 5) (rb rd : LowReg)
  | halfImm (off : BitVec 5) (rb rd : LowReg)
  | sp (rd : LowReg) (k : BitVec 8)
  deriving DecidableEq, Repr

/-- R462, R463, R466, R470, R472, R474, R476. -/
def TStore.form (f : TStore) (s : State) : TMove StoreKind :=
  match f with
  | .reg ro rb rd => ⟨.tStrReg ro rb rd, .word, s.reg (low rb) + s.reg (low ro), rd⟩
  | .byteReg ro rb rd => ⟨.tStrbReg ro rb rd, .byte, s.reg (low rb) + s.reg (low ro), rd⟩
  | .halfReg ro rb rd => ⟨.tStrhReg ro rb rd, .half, s.reg (low rb) + s.reg (low ro), rd⟩
  | .imm off rb rd => ⟨.tStrImm off rb rd, .word, s.reg (low rb) + BitVec.ofNat 32 (4 * off.toNat), rd⟩
  | .byteImm off rb rd => ⟨.tStrbImm off rb rd, .byte, s.reg (low rb) + BitVec.ofNat 32 off.toNat, rd⟩
  | .halfImm off rb rd => ⟨.tStrhImm off rb rd, .half, s.reg (low rb) + BitVec.ofNat 32 (2 * off.toNat), rd⟩
  | .sp rd k => ⟨.tStrSp rd k, .word, s.reg 13#4 + BitVec.ofNat 32 (4 * k.toNat), rd⟩

/-- The conditional branch of a condition (R500); AL and NV have none. -/
def tBranchInstr (c : Cond) (off : BitVec 8) : Option Instr :=
  match c with
  | .eq => some (.tBEq off)
  | .ne => some (.tBNe off)
  | .cs => some (.tBCs off)
  | .cc => some (.tBCc off)
  | .mi => some (.tBMi off)
  | .pl => some (.tBPl off)
  | .vs => some (.tBVs off)
  | .vc => some (.tBVc off)
  | .hi => some (.tBHi off)
  | .ls => some (.tBLs off)
  | .ge => some (.tBGe off)
  | .lt => some (.tBLt off)
  | .gt => some (.tBGt off)
  | .le => some (.tBLe off)
  | .al => none
  | .nv => none

/-- The copy a live name denotes (R42). -/
inductive Copy
  | shared | usr | fiq | irq | svc | abt | und
  deriving DecidableEq, Repr

/-- The table of R42 for R0 to R14. -/
def copyOf (m : Mode) (r : RegNo) : Copy :=
  if r.toNat < 8 then .shared
  else if r.toNat < 13 then (if m = .fiq then .fiq else .usr)
  else
    match m with
    | .user => .usr
    | .sys => .usr
    | .fiq => .fiq
    | .irq => .irq
    | .svc => .svc
    | .abt => .abt
    | .und => .und

/-- Mode and vector of each exception (R602). -/
def entryOf : Exc → Mode × Word
  | .undefined => (.und, 0x04)
  | .swi => (.svc, 0x08)
  | .prefetchAbort => (.abt, 0x0C)
  | .dataAbort => (.abt, 0x10)
  | .irq => (.irq, 0x18)
  | .fiq => (.fiq, 0x1C)

/-- The operand of an MSR and its other fields (R282, R283). -/
inductive MsrForm
  | reg (x1 x2 : BitVec 4) (rm : RegNo)
  | imm (x1 rot : BitVec 4) (k : BitVec 8)
  deriving DecidableEq, Repr

/-- The instruction of an MSR form. -/
def MsrForm.instr (f : MsrForm) (c : Cond) (R : Bool) (mask : BitVec 4) : Instr :=
  match f with
  | .reg x1 x2 rm => .msrReg c R mask x1 x2 rm
  | .imm x1 rot k => .msrImm c R mask x1 rot k

/-- The operand of an MSR form. -/
def MsrForm.operand (f : MsrForm) (s : State) : Word :=
  match f with
  | .reg _ _ rm => s.reg rm
  | .imm _ rot k => (BitVec.setWidth 32 k).rotateRight (2 * rot.toNat)

/-- The long multiplies. -/
inductive LongOp
  | umull | umlal | smull | smlal
  deriving DecidableEq, Repr

/-- The instruction of a long multiply. -/
def LongOp.instr (o : LongOp) (c : Cond) (S : Bool) (rdHi rdLo rs rm : RegNo) : Instr :=
  match o with
  | .umull => .umull c S rdHi rdLo rs rm
  | .umlal => .umlal c S rdHi rdLo rs rm
  | .smull => .smull c S rdHi rdLo rs rm
  | .smlal => .smlal c S rdHi rdLo rs rm

/-- The 64-bit result (R293 to R296): the exact product, signed or not, with the accumulator added or not. -/
def LongOp.result (o : LongOp) (rm rs hi lo : Word) : BitVec 64 :=
  let acc : Int := hi.toNat * 2 ^ 32 + lo.toNat
  match o with
  | .umull => BitVec.ofInt 64 (rm.toNat * rs.toNat)
  | .umlal => BitVec.ofInt 64 (rm.toNat * rs.toNat + acc)
  | .smull => BitVec.ofInt 64 (rm.toInt * rs.toInt)
  | .smlal => BitVec.ofInt 64 (rm.toInt * rs.toInt + acc)

/-- The internal cycles of a multiplier operand (R834): how many low bytes it needs; with `ones` a negative number
counts like its complement. -/
def earlyCycles (ones : Bool) (s : Word) : Nat :=
  let small (k : Nat) : Bool := decide (s.toNat < 2 ^ k) || (ones && decide (2 ^ 32 - 2 ^ k ≤ s.toNat))
  if small 8 then 1 else if small 16 then 2 else if small 24 then 3 else 4

/-- The internal cycles of a long multiply (R832, R834). -/
def LongOp.cycles (o : LongOp) (rs : Word) : Nat :=
  match o with
  | .umull => earlyCycles false rs + 1
  | .umlal => earlyCycles false rs + 2
  | .smull => earlyCycles true rs + 1
  | .smlal => earlyCycles true rs + 2

end Sys2Proof.Spec

open Sys2Proof.Spec

/-! # Encoding -/

/-- Every well-formed instruction, with every operand at every value its fields admit, is what its own encoding
decodes to (R146, R167, R147 to R155, R166). -/
def Obligations.DecodeOfEncode : Prop :=
  ∀ i : Instr, i.wf = true → decodeCode (encode i) = i

/-- Every ARM word and every THUMB halfword decodes to a well-formed instruction of its instruction set, and encoding
that instruction gives the word back, so no bit is dropped and no two words decode alike (R146, R167, R175, R176). -/
def Obligations.EncodeOfDecode : Prop :=
  (∀ x : Word, (decodeArm x).wf = true ∧ (decodeArm x).isa = .arm ∧ encode (decodeArm x) = .arm x) ∧
  ∀ h : Half, (decodeThumb h).wf = true ∧ (decodeThumb h).isa = .thumb ∧ encode (decodeThumb h) = .thumb h

/-- Words of the examples of the instruction rules decode to the instructions those rules name, each bit placed by the
encoding tables (R147, R149, R151 to R154, R166, R175). -/
def Obligations.DecodedWords : Prop :=
  decodeTableWord 32 0xE0110002 = some (.andShiftImm .al true 1#4 0#4 0#5 .lsl 2#4) ∧
  decodeTableWord 32 0xE3110102 = some (.tstImm .al 1#4 0#4 1#4 2#8) ∧
  decodeTableWord 32 0xE0203291 = some (.mla .al false 0#4 3#4 2#4 1#4) ∧
  decodeTableWord 32 0xE1D100B2 = some (.ldrh .al true true false 1#4 0#4 (.imm 0#4 2#4)) ∧
  decodeTableWord 32 0xE7510002 = some (.ldrbRegPre .al false false 1#4 0#4 0#5 .lsl 2#4) ∧
  decodeTableWord 32 0xE92D4010 = some (.stm .al true false false true 13#4 0x4010#16) ∧
  decodeTableWord 32 0xEB000001 = some (.bl .al 1#24) ∧
  decodeTableWord 32 0xEF000005 = some (.swi .al 5#24) ∧
  decodeTableWord 32 0xE3000000 = some (.undefU4 .al false 0#20) ∧
  decodeTableWord 16 0x0088 = some (.tLslImm 2#5 1#3 0#3) ∧
  decodeTableWord 16 0x46F7 = some (.tMovHi true true 6#3 7#3) ∧
  decodeTableWord 16 0xB510 = some (.tPush true 0x10#8) ∧
  decodeTableWord 16 0xD002 = some (.tBEq 2#8) ∧
  decodeTableWord 16 0xDE00 = some (.tUndefU2 0#8)

/-- For every ARM word and every THUMB halfword the opcode table has exactly one row of least priority, and that row
names the instruction the decoder reads (R178, R146, R167). -/
def Obligations.TableLookup : Prop :=
  (∀ x : Word, (lookup .arm x).map OpRow.mnemonic = some (mnemonic (decodeArm x))) ∧
  ∀ h : Half, (lookup .thumb (h.setWidth 32)).map OpRow.mnemonic = some (mnemonic (decodeThumb h))

/-! # Conditions, registers, operands -/

/-- ConditionPassed for each of the sixteen values of the condition field, in the order of R142; NV never passes. -/
def Obligations.ConditionTable : Prop :=
  ∀ p : Cpsr,
    (condPassed (Cond.ofCode 0b0000#4) p = true ↔ p.z = true) ∧
    (condPassed (Cond.ofCode 0b0001#4) p = true ↔ p.z = false) ∧
    (condPassed (Cond.ofCode 0b0010#4) p = true ↔ p.c = true) ∧
    (condPassed (Cond.ofCode 0b0011#4) p = true ↔ p.c = false) ∧
    (condPassed (Cond.ofCode 0b0100#4) p = true ↔ p.n = true) ∧
    (condPassed (Cond.ofCode 0b0101#4) p = true ↔ p.n = false) ∧
    (condPassed (Cond.ofCode 0b0110#4) p = true ↔ p.v = true) ∧
    (condPassed (Cond.ofCode 0b0111#4) p = true ↔ p.v = false) ∧
    (condPassed (Cond.ofCode 0b1000#4) p = true ↔ p.c = true ∧ p.z = false) ∧
    (condPassed (Cond.ofCode 0b1001#4) p = true ↔ p.c = false ∨ p.z = true) ∧
    (condPassed (Cond.ofCode 0b1010#4) p = true ↔ p.n = p.v) ∧
    (condPassed (Cond.ofCode 0b1011#4) p = true ↔ p.n ≠ p.v) ∧
    (condPassed (Cond.ofCode 0b1100#4) p = true ↔ p.z = false ∧ p.n = p.v) ∧
    (condPassed (Cond.ofCode 0b1101#4) p = true ↔ p.z = true ∨ p.n ≠ p.v) ∧
    condPassed (Cond.ofCode 0b1110#4) p = true ∧
    condPassed (Cond.ofCode 0b1111#4) p = false

/-- Any ARM instruction whose condition fails, an undefined, a coprocessor, an SWI or an NV-coded one included, leaves
the whole state as it was and raises nothing (R143). That the program counter still moves on is StepRunsInstruction.
-/
def Obligations.FailedConditionIsNoOp : Prop :=
  ∀ (i : Instr) (s : State), i.isa = .arm → condPassed (instrCond i) s.cpsr = false → exec i s = .next s

/-- Register r of mode m and register q of mode n are the same physical register exactly when r = q and R42 gives both
modes the same copy of it; R15 is no register of the file and every other name is one. -/
def Obligations.BankTable : Prop :=
  (∀ m : Mode, phys m 15#4 = none) ∧
  (∀ (m : Mode) (r : RegNo), r ≠ 15#4 → (phys m r).isSome = true) ∧
  ∀ (m n : Mode) (r q : RegNo), r ≠ 15#4 → q ≠ 15#4 →
    (phys m r = phys n q ↔ r = q ∧ copyOf m r = copyOf n q)

/-- The result is the sum modulo 2^32, the carry says that the unsigned sum does not fit in 32 bits, the overflow that
the signed sum lies outside the signed range; subtraction as addition of the complement carries exactly when nothing
is borrowed. -/
def Obligations.AddWithCarryExact : Prop :=
  ∀ (a b : Word) (c : Bool),
    (addWithCarry a b c).r.toNat = (a.toNat + b.toNat + c.toNat) % 2 ^ 32 ∧
    ((addWithCarry a b c).c = true ↔ 2 ^ 32 ≤ a.toNat + b.toNat + c.toNat) ∧
    ((addWithCarry a b c).v = true ↔
      ¬(-2 ^ 31 ≤ a.toInt + b.toInt + c.toNat ∧ a.toInt + b.toInt + c.toNat ≤ 2 ^ 31 - 1)) ∧
    (addWithCarry a (~~~b) true).r = a - b ∧
    ((addWithCarry a (~~~b) true).c = true ↔ b.toNat ≤ a.toNat)

/-- The rotated immediate, the register shifted by an immediate (amount 0 meaning LSR #32, ASR #32 and RRX) and the
register shifted by a register (0 to 255), each with its carry: left shift multiplies modulo 2^32, logical right shift
divides, arithmetic right shift divides the signed number rounding down, rotation moves each bit. -/
def Obligations.ShiftedOperands : Prop :=
  (∀ (rot : BitVec 4) (k : BitVec 8) (c : Bool),
    (∀ i < 32, (rotImm rot k c).op2.getLsbD i = (BitVec.setWidth 32 k).getLsbD ((i + 2 * rot.toNat) % 32)) ∧
    (rotImm rot k c).sc = if rot = 0 then c else (rotImm rot k c).op2.getLsbD 31) ∧
  (∀ (n : BitVec 5) (m : Word) (c : Bool),
    let k := n.toNat
    let k32 := if n = 0 then 32 else n.toNat
    (Machine.shiftImm .lsl n m c).op2.toNat = m.toNat * 2 ^ k % 2 ^ 32 ∧
    (Machine.shiftImm .lsl n m c).sc = (if k = 0 then c else m.getLsbD (32 - k)) ∧
    (Machine.shiftImm .lsr n m c).op2.toNat = m.toNat / 2 ^ k32 ∧
    (Machine.shiftImm .lsr n m c).sc = m.getLsbD (k32 - 1) ∧
    (Machine.shiftImm .asr n m c).op2.toInt = m.toInt / 2 ^ k32 ∧
    (Machine.shiftImm .asr n m c).sc = m.getLsbD (k32 - 1) ∧
    (∀ i < 32, (Machine.shiftImm .ror n m c).op2.getLsbD i =
      if k = 0 then (if i = 31 then c else m.getLsbD (i + 1)) else m.getLsbD ((i + k) % 32)) ∧
    (Machine.shiftImm .ror n m c).sc = (if k = 0 then m.getLsbD 0 else m.getLsbD (k - 1))) ∧
  ∀ (b : Byte) (m : Word) (c : Bool),
    let k := b.toNat
    (∀ t : Shift, k = 0 → Machine.shiftReg t b m c = ⟨m, c⟩) ∧
    (k ≠ 0 →
      (Machine.shiftReg .lsl b m c).op2.toNat = m.toNat * 2 ^ k % 2 ^ 32 ∧
      (Machine.shiftReg .lsl b m c).sc = (if k ≤ 32 then m.getLsbD (32 - k) else false) ∧
      (Machine.shiftReg .lsr b m c).op2.toNat = m.toNat / 2 ^ k ∧
      (Machine.shiftReg .lsr b m c).sc = (if k ≤ 32 then m.getLsbD (k - 1) else false) ∧
      (Machine.shiftReg .asr b m c).op2.toInt = m.toInt / 2 ^ k ∧
      (Machine.shiftReg .asr b m c).sc = m.getLsbD (min k 32 - 1) ∧
      (∀ i < 32, (Machine.shiftReg .ror b m c).op2.getLsbD i = m.getLsbD ((i + k) % 32)) ∧
      (Machine.shiftReg .ror b m c).sc = m.getLsbD ((k - 1) % 32))

/-! # ARM data processing -/

/-- AND, EOR, ORR, MOV, BIC and MVN in all three operand forms, Rd not R15: Rd holds the result of the operands read
before the write, with S the flags follow R226 and V stays, without S no flag changes; no other register of any bank,
no memory and no device changes; the register-shift form takes one internal cycle. -/
def Obligations.DpLogic : Prop :=
  ∀ (o : LogicOp) (x : Op2) (c : Cond) (S : Bool) (rn rd : RegNo) (s : State),
    s.cpsr.t = false → condPassed c s.cpsr = true → rd ≠ 15#4 →
    let r := o.result (x.reads s rn) (x.shifted s).op2
    ∃ t, exec (o.instr x c S rn rd) s = .next t ∧
      t.reg rd = r ∧
      t.cpsr = (if S then logicFlags s.cpsr r (x.shifted s).sc else s.cpsr) ∧
      RegsBut s t [rd] ∧ Stays s t ∧ CpuOnly s t ∧ t.stepClocks = s.stepClocks + x.cycles

/-- SUB, RSB, ADD, ADC, SBC and RSC in all three operand forms, Rd not R15: Rd holds the exact result modulo 2^32;
with S, C says for a sum that it does not fit and for a difference that nothing is borrowed, V that the signed result
does not fit; without S no flag changes; nothing else changes. -/
def Obligations.DpArith : Prop :=
  ∀ (o : ArithOp) (x : Op2) (c : Cond) (S : Bool) (rn rd : RegNo) (s : State),
    s.cpsr.t = false → condPassed c s.cpsr = true → rd ≠ 15#4 →
    let a := x.reads s rn
    let b := (x.shifted s).op2
    ∃ t, exec (o.instr x c S rn rd) s = .next t ∧
      t.reg rd = o.result a b s.cpsr.c ∧
      t.cpsr = (if S then o.flags a b s.cpsr else s.cpsr) ∧
      RegsBut s t [rd] ∧ Stays s t ∧ CpuOnly s t ∧ t.stepClocks = s.stepClocks + x.cycles

/-- The tests and compares in all three operand forms, whatever Rd names (R15 too: no branch): the flags follow R226
or R227 and nothing else changes but the internal cycle of the register-shift form. -/
def Obligations.DpTests : Prop :=
  ∀ (o : TestOp) (x : Op2) (c : Cond) (rn rd : RegNo) (s : State),
    s.cpsr.t = false → condPassed c s.cpsr = true →
    exec (o.instr x c rn rd) s = .next { s with
      cpsr := o.flags (x.reads s rn) (x.shifted s) s.cpsr, stepClocks := s.stepClocks + x.cycles }

/-- The twelve writing operations in all three forms with Rd = R15: pc is the result aligned for the instruction set
afterwards, with two bubble steps; with S, CPSR is the SPSR of the mode (unchanged in User and System; a mode field
that is no mode leaves M) and no flag comes from the result; without S, CPSR is unchanged; no general register
changes. -/
def Obligations.DpWritesPc : Prop :=
  ∀ (o : DpOp) (x : Op2) (c : Cond) (S : Bool) (rn : RegNo) (s : State),
    s.cpsr.t = false → condPassed c s.cpsr = true →
    ∃ t, exec (o.instr x c S rn 15#4) s = .next t ∧
      (if S then Restored s t else t.cpsr = s.cpsr) ∧
      Jumps t (o.result (x.reads s rn) (x.shifted s).op2 s.cpsr.c) ∧
      t.regs = s.regs ∧ CpuOnly s t ∧ t.stepClocks = s.stepClocks + x.cycles

/-! # PSR transfer and multiply -/

/-- MRS writes Rd with the status word, bits 27:8 zero: CPSR, or with R the SPSR of the mode, in User and System mode
SPSR_NONE_VALUE; R15 as Rd is a branch to the value; no flag and nothing else changes. -/
def Obligations.MrsReads : Prop :=
  ∀ (c : Cond) (R : Bool) (x1 x2 x3 : BitVec 4) (rd : RegNo) (s : State), condPassed c s.cpsr = true →
    let v : Word :=
      if R then
        (match s.spsr.get? s.cpsr.mode with
         | some p => p.flags ++ (0#20 ++ p.ctrl)
         | none => Config.spsrNoneValue)
      else (savedWord s.cpsr).flags ++ (0#20 ++ (savedWord s.cpsr).ctrl)
    ∃ t, exec (.mrs c R x1 rd x2 x3) s = .next t ∧ Writes s t rd v ∧ t.cpsr = s.cpsr ∧ RegsBut s t [rd] ∧
      CpuOnly s t ∧ t.stepClocks = s.stepClocks

/-- MSR from a register or an immediate. CPSR: mask bit 3 writes N Z C V in any mode; mask bit 0 writes I, F and M
outside User mode (a value that is no mode leaves M) and never T; bits 1 and 2 of the mask write nothing. SPSR: the
flags and the low byte as the mask says; no effect in User and System mode. Nothing else changes. -/
def Obligations.MsrWrites : Prop :=
  ∀ (f : MsrForm) (c : Cond) (mask : BitVec 4) (s : State), condPassed c s.cpsr = true →
    let op := f.operand s
    let flagField := mask.getLsbD 3
    let control := mask.getLsbD 0 && s.cpsr.mode != .user
    (∃ t, exec (f.instr c false mask) s = .next t ∧ t = { s with cpsr := t.cpsr } ∧
      t.cpsr.n = (if flagField then op.getLsbD 31 else s.cpsr.n) ∧
      t.cpsr.z = (if flagField then op.getLsbD 30 else s.cpsr.z) ∧
      t.cpsr.c = (if flagField then op.getLsbD 29 else s.cpsr.c) ∧
      t.cpsr.v = (if flagField then op.getLsbD 28 else s.cpsr.v) ∧
      t.cpsr.i = (if control then op.getLsbD 7 else s.cpsr.i) ∧
      t.cpsr.f = (if control then op.getLsbD 6 else s.cpsr.f) ∧
      t.cpsr.t = s.cpsr.t ∧
      t.cpsr.mode = (if control then (Mode.ofCode (op.extractLsb' 0 5)).getD s.cpsr.mode else s.cpsr.mode)) ∧
    ∃ t, exec (f.instr c true mask) s = .next t ∧ t = { s with spsr := t.spsr } ∧
      (∀ m, m ≠ s.cpsr.mode → t.spsr.get? m = s.spsr.get? m) ∧
      t.spsr.get? s.cpsr.mode = (s.spsr.get? s.cpsr.mode).map fun p =>
        ⟨if flagField then op.extractLsb' 28 4 else p.flags, if mask.getLsbD 0 then op.extractLsb' 0 8 else p.ctrl⟩

/-- The low 32 bits of the product (plus Rn for MLA) go to Rd, R15 as Rd being a branch; with S (always for THUMB) N
and Z are the result's while C and V stay; the internal cycles are those of the multiplier operand, for THUMB MUL the
old Rd, and one more for MLA; nothing else changes. -/
def Obligations.MulResult : Prop :=
  (∀ (c : Cond) (S : Bool) (rd rn rs rm : RegNo) (s : State), condPassed c s.cpsr = true →
    (let v := BitVec.ofNat 32 ((s.reg rm).toNat * (s.reg rs).toNat)
     ∃ t, exec (.mul c S rd rn rs rm) s = .next t ∧ Writes s t rd v ∧
       t.cpsr = (if S then nzOf s.cpsr v else s.cpsr) ∧ RegsBut s t [rd] ∧ CpuOnly s t ∧
       t.stepClocks = s.stepClocks + earlyCycles true (s.reg rs)) ∧
    (let v := BitVec.ofNat 32 ((s.reg rm).toNat * (s.reg rs).toNat + (s.reg rn).toNat)
     ∃ t, exec (.mla c S rd rn rs rm) s = .next t ∧ Writes s t rd v ∧
       t.cpsr = (if S then nzOf s.cpsr v else s.cpsr) ∧ RegsBut s t [rd] ∧ CpuOnly s t ∧
       t.stepClocks = s.stepClocks + (earlyCycles true (s.reg rs) + 1))) ∧
  ∀ (rs rd : LowReg) (s : State),
    let v := BitVec.ofNat 32 ((s.reg (low rd)).toNat * (s.reg (low rs)).toNat)
    ∃ t, exec (.tMul rs rd) s = .next t ∧ Writes s t (low rd) v ∧ t.cpsr = nzOf s.cpsr v ∧ RegsBut s t [low rd] ∧
      CpuOnly s t ∧ t.stepClocks = s.stepClocks + earlyCycles true (s.reg (low rd))

/-- UMULL, UMLAL, SMULL and SMLAL: the exact 64-bit product, with the old RdHi:RdLo added for the accumulating forms,
modulo 2^64; RdLo is written before RdHi, so equal registers hold the high word and R15 written last decides the
branch; with S, N and Z are those of the 64 bits while C and V stay; nothing else changes. -/
def Obligations.MullResult : Prop :=
  ∀ (o : LongOp) (c : Cond) (S : Bool) (rdHi rdLo rs rm : RegNo) (s : State), condPassed c s.cpsr = true →
    let x := o.result (s.reg rm) (s.reg rs) (s.reg rdHi) (s.reg rdLo)
    let lo := BitVec.ofNat 32 x.toNat
    let hi := BitVec.ofNat 32 (x.toNat / 2 ^ 32)
    ∃ t, exec (o.instr c S rdHi rdLo rs rm) s = .next t ∧
      (rdHi ≠ 15#4 → t.reg rdHi = hi) ∧
      (rdLo ≠ 15#4 → rdLo ≠ rdHi → t.reg rdLo = lo) ∧
      (if rdHi = 15#4 then Jumps t hi else if rdLo = 15#4 then Jumps t lo else Stays s t) ∧
      t.cpsr = (if S then { s.cpsr with n := x.getLsbD 63, z := decide (x.toNat = 0) } else s.cpsr) ∧
      RegsBut s t [rdHi, rdLo] ∧ CpuOnly s t ∧ t.stepClocks = s.stepClocks + o.cycles (s.reg rs)

/-- The count m(s) of R834: by the shortest of 1, 2, 3 bytes above which the operand is all zeros or, for the signed
forms, all ones, else 4. -/
def Obligations.MultiplyCycles : Prop :=
  ∀ (ones : Bool) (x : Word), mulCycles ones x = earlyCycles ones x

/-! # Branches and exceptions -/

/-- The target is A + 8 plus four times the signed 24-bit offset, modulo 2^32; BL writes A + 4 to R14 of the mode; no
flag, no other register, no memory changes. -/
def Obligations.ArmBranches : Prop :=
  ∀ (c : Cond) (off : BitVec 24) (s : State), s.cpsr.t = false → condPassed c s.cpsr = true →
    let target := BitVec.ofInt 32 (s.pc.toNat + 4 * off.toInt)
    (∃ t, exec (.b c off) s = .next t ∧ Jumps t target ∧ t = { s with pc := t.pc, bubble := t.bubble }) ∧
    ∃ t, exec (.bl c off) s = .next t ∧ Jumps t target ∧ t.reg 14#4 = s.pc - 4 ∧ RegsBut s t [14#4] ∧
      t = { s with regs := t.regs, pc := t.pc, bubble := t.bubble }

/-- ARM BX and THUMB BX, whatever their ignored bits hold: CPSR.T is bit 0 of the register, pc its value aligned for
that instruction set, two bubble steps follow, and nothing else changes. -/
def Obligations.BranchExchange : Prop :=
  ∀ (s : State),
    (∀ (c : Cond) (x1 : BitVec 12) (rm : RegNo), condPassed c s.cpsr = true →
      ∃ t, exec (.bx c x1 rm) s = .next t ∧ Jumps t (s.reg rm) ∧
        t = { s with cpsr := { s.cpsr with t := (s.reg rm).getLsbD 0 }, pc := t.pc, bubble := t.bubble }) ∧
    ∀ (h1 h2 : Bool) (rs : LowReg) (x1 : BitVec 3),
      ∃ t, exec (.tBx h1 h2 rs x1) s = .next t ∧ Jumps t (s.reg (high h2 rs)) ∧
        t = { s with cpsr := { s.cpsr with t := (s.reg (high h2 rs)).getLsbD 0 }, pc := t.pc, bubble := t.bubble }

/-- SWI of both sets enters Supervisor mode at 0x08; each undefined encoding of both sets and each coprocessor
instruction enters Undefined mode at 0x04 with one internal cycle; the link is the address of the next instruction (A
+ 4 or A + 2), the SPSR the old CPSR, T is cleared, I set, F kept. -/
def Obligations.TrapInstructions : Prop :=
  ∀ (i : Instr) (s : State), s.cpsr.t = (i.isa == .thumb) → condPassed (instrCond i) s.cpsr = true →
    (swiInstr i = true → ∃ t, exec i s = .next t ∧ Enters s t .svc 0x08 (s.pc - width s) s.cpsr.f ∧
      t.stepClocks = s.stepClocks) ∧
    (undefinedInstr i = true → ∃ t, exec i s = .next t ∧ Enters s t .und 0x04 (s.pc - width s) s.cpsr.f ∧
      t.stepClocks = s.stepClocks + 1)

/-- For each exception and any link value: the whole old CPSR goes to the SPSR of the new mode and to no other, R14 of
the new mode holds the link, mode and vector are those of R602, T is cleared, I set, F set for FIQ only, N Z C V
unchanged, two bubble steps, the next access non-sequential; nothing else changes. -/
def Obligations.ExceptionEntry : Prop :=
  ∀ (s : State) (e : Exc) (lr : Word),
    Enters s (s.enterException e lr) (entryOf e).1 (entryOf e).2 lr (s.cpsr.f || decide (e = .fiq)) ∧
    (s.enterException e lr).stepClocks = s.stepClocks

/-- From either instruction set and any mode, an SWI followed by MOVS PC, R14 restores the whole CPSR and continues at
the instruction after the SWI, aligned for the restored set; of the registers only R14_svc has changed, of the SPSRs
only SPSR_svc. -/
def Obligations.SwiRoundTrip : Prop :=
  ∀ (i : Instr) (s : State), swiInstr i = true → s.cpsr.t = (i.isa == .thumb) →
    condPassed (instrCond i) s.cpsr = true →
    ∃ t u, exec i s = .next t ∧ exec (.movShiftImm .al true 0#4 15#4 0#5 .lsl 14#4) t = .next u ∧
      u.cpsr = s.cpsr ∧ Jumps u (s.pc - width s) ∧
      (∀ p : Fin 30, phys .svc 14#4 ≠ some p → u.regs[p] = s.regs[p]) ∧
      u.spsr = { s.spsr with svc := u.spsr.svc } ∧ u.mem = s.mem

/-! # ARM loads and stores -/

/-- LDR, LDRB, LDRT, LDRBT in every addressing form and LDRH, LDRSB, LDRSH in both: the loaded value, rotated or
sign-extended as R108 and R109 say, goes to Rd; the base is written back first, so a loaded base wins; R15 as Rd or as
a written-back base is a branch that keeps the instruction set; one read access and one internal cycle; flags, memory
and devices are unchanged. -/
def Obligations.ArmLoads : Prop :=
  ∀ (f : LoadForm) (c : Cond) (rn rd : RegNo) (s : State), condPassed c s.cpsr = true →
    let x := f.indexing s
    let a := x.addr (s.reg rn)
    ∃ t, exec (f.instr c rn rd) s = .next t ∧ LoadEffect s t x rn rd (loaded s f.kind a) ∧ LoadCost s t f.kind a

/-- STR, STRB, STRT, STRBT in every addressing form and STRH in both: the bytes of Rd as it was before the writeback
(R15 stores A + 12) land at the address aligned down, every other byte of memory and every register but a written-back
base are unchanged, and devices change only through bytes of the block. -/
def Obligations.ArmStores : Prop :=
  ∀ (f : StoreForm) (c : Cond) (rn rd : RegNo) (s : State),
    s.cpsr.t = false → condPassed c s.cpsr = true → Memory.wf s.mem = true →
    let x := f.indexing s
    let a := x.addr (s.reg rn)
    let v := if rd = 15#4 then s.pc + 4 else s.reg rd
    ∃ t, exec (f.instr c rn rd) s = .next t ∧ StoreOnly s t ∧
      BaseEffect s t x.wback rn (x.offAddr (s.reg rn)) ∧ Stored s t [putOf f.kind a v] ∧ StoreCost s t f.kind a

/-- Rd gets the word (rotated) or byte at x[Rn] as it was, the bytes of x[Rm] as it was land there, also when Rd is Rm
or Rn; R15 as Rd is a branch; no flag and no other register or byte changes. -/
def Obligations.Swaps : Prop :=
  ∀ (c : Cond) (rn rd : RegNo) (x1 : BitVec 4) (rm : RegNo) (s : State),
    condPassed c s.cpsr = true → Memory.wf s.mem = true →
    (∃ t, exec (.swp c rn rd x1 rm) s = .next t ∧ StoreOnly s t ∧ RegsBut s t [rd] ∧
      Writes s t rd (loaded s .word (s.reg rn)) ∧ Stored s t [putOf .word (s.reg rn) (s.reg rm)]) ∧
    ∃ t, exec (.swpb c rn rd x1 rm) s = .next t ∧ StoreOnly s t ∧ RegsBut s t [rd] ∧
      Writes s t rd (loaded s .byte (s.reg rn)) ∧ Stored s t [putOf .byte (s.reg rn) (s.reg rm)]

/-- Every LDM: the listed registers hold the words at ascending aligned addresses; the base is written back unless it
is itself loaded; with S and no R15 the User bank is loaded; with R15 in the list it is a branch, with S an exception
return. An empty list loads R15 only and moves the base by 0x40; that an empty list with S is an exception return too
is the model's reading (log entry 11), as is a writeback of R15 (log entry 12). -/
def Obligations.LdmLoads : Prop :=
  ∀ (c : Cond) (p u S w : Bool) (rn : RegNo) (l : BitVec 16) (s : State), condPassed c s.cpsr = true →
    ∃ t, exec (.ldm c p u S w rn l) s = .next t ∧ LdmEffect s t p u S w rn l

/-- Every STM: the listed registers, of the User bank with S, are stored at ascending aligned addresses, R15 as A +
12, a written-back base that is not the lowest of the list as its final value; every other byte of memory and every
register but a written-back base are unchanged. An empty list stores R15 only and moves the base by 0x40; a writeback
of R15 is the model's reading (log entry 12). -/
def Obligations.StmStores : Prop :=
  ∀ (c : Cond) (p u S w : Bool) (rn : RegNo) (l : BitVec 16) (s : State),
    s.cpsr.t = false → condPassed c s.cpsr = true → Memory.wf s.mem = true →
    ∃ t, exec (.stm c p u S w rn l) s = .next t ∧ StmEffect s t p u S w rn l (s.pc + 4)

/-! # THUMB -/

/-- ADD, SUB, ADC, SBC, NEG in formats 2 to 4 write Rd with the exact result modulo 2^32 and all four flags from it;
CMP and CMN of formats 3, 4 and 5 write the flags alone; nothing else changes. -/
def Obligations.ThumbArith : Prop :=
  ∀ (s : State),
    (∀ f : TArith, ∃ t, exec (f.form s).instr s = .next t ∧
      t.reg (low (f.form s).rd) = (f.form s).op.result (f.form s).a (f.form s).b s.cpsr.c ∧
      t.cpsr = (f.form s).op.flags (f.form s).a (f.form s).b s.cpsr ∧
      RegsBut s t [low (f.form s).rd] ∧ Stays s t ∧ CpuOnly s t ∧ t.stepClocks = s.stepClocks) ∧
    ∀ f : TCompare, exec f.instr s = .next { s with cpsr := f.flags s }

/-- AND, EOR, ORR, BIC, MVN and MOV of an immediate write Rd and set N and Z from the result; TST sets N and Z alone;
C, V and everything else are unchanged. -/
def Obligations.ThumbLogic : Prop :=
  ∀ (s : State),
    (∀ f : TLogic, ∃ t, exec f.instr s = .next t ∧ t.reg (low f.rd) = f.result s ∧ t.cpsr = nzOf s.cpsr (f.result s) ∧
      RegsBut s t [low f.rd] ∧ Stays s t ∧ CpuOnly s t ∧ t.stepClocks = s.stepClocks) ∧
    ∀ rs rd : LowReg, exec (.tTst rs rd) s =
      .next { s with cpsr := nzOf s.cpsr (s.reg (low rd) &&& s.reg (low rs)) }

/-- LSL, LSR, ASR by an immediate of Rs, and LSL, LSR, ASR, ROR of Rd by the low byte of Rs: Rd and C are the
shifter's result and carry (ShiftedOperands), N and Z the result's, V and everything else unchanged. That a register
shift takes one internal cycle, as the ARM form it equals, is log entry 23. -/
def Obligations.ThumbShifts : Prop :=
  ∀ (t : Shift) (n : BitVec 5) (rs rd : LowReg) (s : State),
    (∀ i, tShiftImmInstr t n rs rd = some i →
      let x := Machine.shiftImm t n (s.reg (low rs)) s.cpsr.c
      ∃ u, exec i s = .next u ∧ u.reg (low rd) = x.op2 ∧ u.cpsr = logicFlags s.cpsr x.op2 x.sc ∧
        RegsBut s u [low rd] ∧ Stays s u ∧ CpuOnly s u ∧ u.stepClocks = s.stepClocks) ∧
    let x := Machine.shiftReg t (BitVec.ofNat 8 (s.reg (low rs)).toNat) (s.reg (low rd)) s.cpsr.c
    ∃ u, exec (tShiftRegInstr t rs rd) s = .next u ∧ u.reg (low rd) = x.op2 ∧
      u.cpsr = logicFlags s.cpsr x.op2 x.sc ∧ RegsBut s u [low rd] ∧ Stays s u ∧ CpuOnly s u ∧
      u.stepClocks = s.stepClocks + 1

/-- ADD and MOV of format 5 with any H flags write the named register and change no flag; R15 as the destination is a
THUMB branch; nothing else changes. -/
def Obligations.ThumbHigh : Prop :=
  ∀ (h1 h2 : Bool) (rs rd : LowReg) (s : State),
    let d := high h1 rd
    (∃ t, exec (.tAddHi h1 h2 rs rd) s = .next t ∧ Writes s t d (s.reg d + s.reg (high h2 rs)) ∧ t.cpsr = s.cpsr ∧
      RegsBut s t [d] ∧ CpuOnly s t ∧ t.stepClocks = s.stepClocks) ∧
    ∃ t, exec (.tMovHi h1 h2 rs rd) s = .next t ∧ Writes s t d (s.reg (high h2 rs)) ∧ t.cpsr = s.cpsr ∧
      RegsBut s t [d] ∧ CpuOnly s t ∧ t.stepClocks = s.stepClocks

/-- ADD Rd, PC (the word-aligned A + 4), ADD Rd, SP, ADD SP and SUB SP with their scaled offsets: the one destination
changes, no flag and nothing else does. -/
def Obligations.ThumbAddress : Prop :=
  ∀ (rd : LowReg) (k : BitVec 8) (j : BitVec 7) (s : State),
    let only (t : State) (r : RegNo) (v : Word) : Prop :=
      t.reg r = v ∧ RegsBut s t [r] ∧ t = { s with regs := t.regs }
    (∃ t, exec (.tAddPc rd k) s = .next t ∧
      only t (low rd) (BitVec.ofNat 32 (s.pc.toNat / 4 * 4 + 4 * k.toNat))) ∧
    (∃ t, exec (.tAddSp rd k) s = .next t ∧ only t (low rd) (s.reg 13#4 + BitVec.ofNat 32 (4 * k.toNat))) ∧
    (∃ t, exec (.tAddSpImm j) s = .next t ∧ only t 13#4 (s.reg 13#4 + BitVec.ofNat 32 (4 * j.toNat))) ∧
    ∃ t, exec (.tSubSpImm j) s = .next t ∧ only t 13#4 (s.reg 13#4 - BitVec.ofNat 32 (4 * j.toNat))

/-- The PC-relative, register-offset, sign-extending, immediate-offset, halfword and SP-relative loads: Rd gets the
value as R108 and R109 say; one read access and one internal cycle; no flag, no other register, no memory changes. -/
def Obligations.ThumbLoads : Prop :=
  ∀ (f : TLoad) (s : State),
    let m := f.form s
    ∃ t, exec m.instr s = .next t ∧ t.reg (low m.rd) = loaded s m.kind m.addr ∧ t.cpsr = s.cpsr ∧
      RegsBut s t [low m.rd] ∧ Stays s t ∧ LoadOnly s t ∧ LoadCost s t m.kind m.addr

/-- The register-offset, immediate-offset, halfword and SP-relative stores: the bytes of Rd land at the address
aligned down, every other byte of memory and every register are unchanged, and devices change only through bytes of
the block. -/
def Obligations.ThumbStores : Prop :=
  ∀ (f : TStore) (s : State), Memory.wf s.mem = true →
    let m := f.form s
    ∃ t, exec m.instr s = .next t ∧ StoreOnly s t ∧ t.regs = s.regs ∧ Stays s t ∧
      Stored s t [putOf m.kind m.addr (s.reg (low m.rd))] ∧ StoreCost s t m.kind m.addr

/-- PUSH stores the listed low registers and, with R, LR below SP and moves SP down; STMIA stores from the base up and
moves it up, a base that is not the lowest of the list storing its final value; an empty list stores A + 6 and moves
the base by 0x40; nothing else changes. -/
def Obligations.ThumbPushStmia : Prop :=
  ∀ (s : State), s.cpsr.t = true → Memory.wf s.mem = true →
    (∀ (R : Bool) (l : BitVec 8), ∃ t, exec (.tPush R l) s = .next t ∧
      StmEffect s t true false false true 13#4 (BitVec.ofNat 16 (l.toNat + if R then 0x4000 else 0)) (s.pc + 2)) ∧
    ∀ (rb : LowReg) (l : BitVec 8), ∃ t, exec (.tStmia rb l) s = .next t ∧
      StmEffect s t false true false true (low rb) (BitVec.ofNat 16 l.toNat) (s.pc + 2)

/-- POP loads the listed low registers and, with R, R15 (a branch that keeps the instruction set) from SP up and moves
SP up; LDMIA loads from the base up and moves it up unless it is loaded; an empty list loads R15 and moves the base by
0x40; nothing else changes. -/
def Obligations.ThumbPopLdmia : Prop :=
  ∀ (s : State),
    (∀ (R : Bool) (l : BitVec 8), ∃ t, exec (.tPop R l) s = .next t ∧
      LdmEffect s t false true false true 13#4 (BitVec.ofNat 16 (l.toNat + if R then 0x8000 else 0))) ∧
    ∀ (rb : LowReg) (l : BitVec 8), ∃ t, exec (.tLdmia rb l) s = .next t ∧
      LdmEffect s t false true false true (low rb) (BitVec.ofNat 16 l.toNat)

/-- The fourteen conditional branches go to A + 4 plus twice the signed offset when their condition passes and have no
effect when it fails; B always goes; nothing but pc and the bubble changes. -/
def Obligations.ThumbBranches : Prop :=
  (∀ (c : Cond) (off : BitVec 8) (i : Instr) (s : State), tBranchInstr c off = some i →
    (condPassed c s.cpsr = true → ∃ t, exec i s = .next t ∧ t = { s with pc := t.pc, bubble := t.bubble } ∧
      Jumps t (BitVec.ofInt 32 (s.pc.toNat + 2 * off.toInt))) ∧
    (condPassed c s.cpsr = false → exec i s = .next s)) ∧
  ∀ (off : BitVec 11) (s : State), ∃ t, exec (.tB off) s = .next t ∧ t = { s with pc := t.pc, bubble := t.bubble } ∧
    Jumps t (BitVec.ofInt 32 (s.pc.toNat + 2 * off.toInt))

/-- The first half writes LR with A + 4 plus the signed offset times 4096; the second goes to LR plus twice its offset
and leaves the next address with bit 0 set in LR; run one after the other, at pc and then pc + 2, they call A + 4 plus
twice the signed 22-bit offset. -/
def Obligations.ThumbBlPair : Prop :=
  ∀ (offHi offLo : BitVec 11) (s : State), s.cpsr.t = true →
    (∃ t, exec (.tBlPrefix offHi) s = .next t ∧ t.reg 14#4 = BitVec.ofInt 32 (s.pc.toNat + 4096 * offHi.toInt) ∧
      RegsBut s t [14#4] ∧ t = { s with regs := t.regs }) ∧
    (∃ t, exec (.tBlSuffix offLo) s = .next t ∧ Jumps t (s.reg 14#4 + BitVec.ofNat 32 (2 * offLo.toNat)) ∧
      t.reg 14#4 = (s.pc - 2) ||| 1 ∧ RegsBut s t [14#4] ∧
      t = { s with regs := t.regs, pc := t.pc, bubble := t.bubble }) ∧
    ∃ t u, exec (.tBlPrefix offHi) s = .next t ∧ exec (.tBlSuffix offLo) { t with pc := t.pc + 2 } = .next u ∧
      Jumps u (BitVec.ofInt 32 (s.pc.toNat + 2 * (offHi ++ offLo).toInt)) ∧ u.reg 14#4 = s.pc ||| 1

/-! # Steps -/

/-- Every instruction in every state, and every step from every state, answers a next state: no access faults, every
exception is taken, and under the fixed policy every unpredictable case has its stated behaviour. -/
def Obligations.StepAnswersNext : Prop :=
  (∀ (i : Instr) (s : State), ∃ t, exec i s = .next t) ∧ ∀ s : State, ∃ t, step s = .next t

/-- When nothing comes before the CPU and no IRQ is taken, a step fetches the word at pc, executes the instruction
that the word in slotExec decodes to with pc reading A + 2w, moves pc and the prefetched words on by one instruction
unless it branched, and charges the clocks it cost, those of the fetch under an access kind of its own (the model's
choice, log entry 34). -/
def Obligations.StepRunsInstruction : Prop :=
  ∀ s : State, CpuTurn s → ¬(IrqRaised s ∧ s.cpsr.i = false) →
    let i := if s.cpsr.t then decodeThumb (s.slotExec.setWidth 16) else decodeArm s.slotExec
    ∃ t, exec i (afterFetch { s with halted := false, userLdm := false }) = .next t ∧
      step s = .next (charged (if t.bubble = 0 then
        { t with pc := t.pc + width s, slotExec := t.slotDecode, slotDecode := fetched s } else t))

/-- From a state with two bubble steps to go, no external events to come and no DMA or STOP, two steps lead to a state
with none to go whose slotExec is the word at the target, slotDecode the word after it, and pc two instructions on;
registers, status words and memory are unchanged. -/
def Obligations.BubbleRefill : Prop :=
  ∀ s : State, s.env = [] → s.stopped = false → s.armed = none → s.bubble = 2 →
    ∃ s1 s2, step s = .next s1 ∧ step s1 = .next s2 ∧
      s1.bubble = 1 ∧ s1.pc = s.pc + width s ∧ s2.bubble = 0 ∧ s2.pc = s.pc + width s + width s ∧
      s2.slotExec = fetched s ∧ s2.slotDecode = fetched s1 ∧ s2.lastFetch = fetched s1 ∧
      s2.regs = s.regs ∧ s2.cpsr = s.cpsr ∧ s2.spsr = s.spsr ∧ s1.mem = s.mem ∧ s2.mem = s.mem

/-- When the CPU has its turn, the line is raised and CPSR.I is clear, the step enters IRQ mode at 0x18 with link N +
4, N = pc - 2w being the instruction not yet run, in both instruction sets and also out of HALT, at no clocks of its
own. -/
def Obligations.IrqEntry : Prop :=
  ∀ s : State, CpuTurn s → IrqRaised s → s.cpsr.i = false →
    ∃ t, step s = .next t ∧
      Enters { s with halted := false } t .irq 0x18 (s.pc - (width s + width s) + 4) s.cpsr.f ∧
      t.stepClocks = s.stepClocks

/-- With no external event due: in STOP a step passes one clock and changes nothing else; otherwise an armed DMA
channel moves one unit, also in HALT or in a bubble; a halted machine with no enabled request passes one clock with
the timers running. -/
def Obligations.HaltAndStop : Prop :=
  ∀ s : State, (∀ x ∈ s.env, s.clock < x.1) →
    (s.stopped = true → step s = .next { s with clock := s.clock + 1 }) ∧
    (∀ n, s.stopped = false → s.armed = some n → step s = .next (charged (s.performUnit n))) ∧
    (s.stopped = false → s.armed = none → s.bubble = 0 → s.halted = true → s.irq.ie &&& s.irq.ifl = 0 →
      step s = .next (s.charge 1))

/-- Memory is canonical, pc aligned, arbitration, DMA channels and timers consistent, and no cost left over, in the
power-on and in the boot-complete state. -/
def Obligations.InvariantAtReset : Prop :=
  ∀ skipBoot : Bool, (State.resetFor skipBoot).Inv

/-- From every state that meets the invariant, whatever the step does (external events, a DMA unit, a bubble, HALT, an
IRQ, any instruction), the next state meets it: memory stays canonical, pc aligned for the instruction set, prefetched
THUMB words halfwords, the armed channel the lowest ready one, every DMA channel and timer consistent. -/
def Obligations.InvariantKept : Prop :=
  ∀ s t : State, s.Inv → step s = .next t → t.Inv

/-- Power-on: every register and SPSR 0, CPSR 0xD3, pc 0, two bubble steps, both prefetch slots and lastFetch 0, every
dispatch flag false, no channel armed, no bus access remembered (R71), the interrupt controller, the DMA bus value,
the four DMA channels, the four timers and the clock counters all 0. Boot-complete: the whole state is the same but
for CPSR 0x1F, the three stack pointers and pc 0x08000000. -/
def Obligations.ResetValues : Prop :=
  (let s := State.resetFor false
   (∀ p : Fin 30, s.regs[p] = 0) ∧
   (∀ p ∈ [s.spsr.fiq, s.spsr.svc, s.spsr.abt, s.spsr.irq, s.spsr.und], p.toWord = 0) ∧
   s.cpsr.toWord = 0xD3 ∧ s.pc = 0 ∧ s.slotExec = 0 ∧ s.slotDecode = 0 ∧ s.bubble = 2 ∧ s.lastFetch = 0 ∧
   s.halted = false ∧ s.stopped = false ∧ s.iterationEnd = false ∧ s.irqLine = false ∧ s.armed = none ∧
   s.busLast = none ∧ s.irq = ⟨0, 0, false⟩ ∧ s.dmaBusValue = 0 ∧
   (∀ n, s.dma.get n = ⟨0, 0, 0, 0, 0, 0, 0, 0, 0, 0⟩) ∧
   (∀ n, s.timers.get n = ⟨0, 0, 0, 0, false, false, false⟩) ∧
   s.clock = 0 ∧ s.budgetEnd = 0 ∧ s.carry = 0) ∧
  (let s := State.resetFor true
   s.cpsr.toWord = 0x1F ∧ s.pc = 0x08000000 ∧ s.bubble = 2 ∧
   s.regIn .sys 13#4 = 0x03007F00 ∧ s.regIn .irq 13#4 = 0x03007FA0 ∧ s.regIn .svc 13#4 = 0x03007FE0 ∧
   (∀ p : Fin 30, phys .sys 13#4 ≠ some p → phys .irq 13#4 ≠ some p → phys .svc 13#4 ≠ some p → s.regs[p] = 0) ∧
   s = { State.resetFor false with regs := s.regs, cpsr := s.cpsr, pc := s.pc })

/-- Whatever instruction executes, a physical register that the current mode does not name is unchanged, but for
R14_svc and R14_und (exception entry) and, for an LDM with the S bit that does not load R15, the registers of the User
bank. -/
def Obligations.BankIsolation : Prop :=
  ∀ (i : Instr) (s t : State) (p : Fin 30), exec i s = .next t →
    (∀ r : RegNo, phys s.cpsr.mode r ≠ some p) →
    phys .svc 14#4 ≠ some p → phys .und 14#4 ≠ some p →
    ((∀ c a u w rn l, moves l 15 = false → i ≠ .ldm c a u true w rn l) ∨ ∀ r : RegNo, phys .user r ≠ some p) →
    t.regs[p] = s.regs[p]

/-- An instruction executed in User mode either stays in User mode with I, F, every SPSR and every register of another
bank unchanged, or is an SWI or an undefined or coprocessor encoding that enters Supervisor mode at 0x08 or Undefined
mode at 0x04 with I set. -/
def Obligations.UserModeConfined : Prop :=
  ∀ (i : Instr) (s t : State), s.cpsr.mode = .user → exec i s = .next t →
    (t.cpsr.mode = .user ∧ t.cpsr.i = s.cpsr.i ∧ t.cpsr.f = s.cpsr.f ∧ t.spsr = s.spsr ∧
      ∀ p : Fin 30, (∀ r : RegNo, phys .user r ≠ some p) → t.regs[p] = s.regs[p]) ∨
    ((swiInstr i = true ∧ t.cpsr.mode = .svc ∧ t.pc = 0x08 ∨
      undefinedInstr i = true ∧ t.cpsr.mode = .und ∧ t.pc = 0x04) ∧ t.cpsr.i = true ∧ t.cpsr.t = false)

/-! # Memory and devices -/

/-- The memory of this model is flat and writable everywhere outside the block's own registers (the model's choice,
log entry 5); over it, a 32-bit write at an aligned address followed by reads of any width inside it returns the
matching part of the value; everywhere a wider aligned read is the little-endian concatenation of its byte reads. -/
def Obligations.MemoryReadWrite : Prop :=
  (∀ (s : State) (a v : Word), Memory.wf s.mem = true → a.toNat % 4 = 0 → (∀ j < 4, isIo (a.toNat + j) = false) →
    let t := s.memWrite a .word v
    (∀ k < 4, t.read8 (a + BitVec.ofNat 32 k) = v.extractLsb' (8 * k) 8) ∧
    (∀ j < 2, t.read16 (a + BitVec.ofNat 32 (2 * j)) = v.extractLsb' (16 * j) 16) ∧
    t.read32 a = v) ∧
  ∀ (s : State) (a : Word),
    (a.toNat % 2 = 0 → s.read16 a = s.read8 (a + 1) ++ s.read8 a) ∧
    (a.toNat % 4 = 0 → s.read32 a = s.read8 (a + 3) ++ s.read8 (a + 2) ++ s.read8 (a + 1) ++ s.read8 a)

/-- requestLine sets exactly the bits of the mask in IF, whatever IE holds; acknowledge clears exactly the bits
written as 1; the enable writes store IE and IME; the line is raised exactly when an enabled request and the master
enable are there; nothing else changes. -/
def Obligations.IrqController : Prop :=
  ∀ (s : State) (mask : BitVec 14) (flag : Bool),
    (s.requestLine mask = { s with irq := (s.requestLine mask).irq } ∧
      (s.requestLine mask).irq.ie = s.irq.ie ∧ (s.requestLine mask).irq.ime = s.irq.ime ∧
      ∀ b < 14, (s.requestLine mask).irq.ifl.getLsbD b = (s.irq.ifl.getLsbD b || mask.getLsbD b)) ∧
    (s.acknowledge mask = { s with irq := (s.acknowledge mask).irq } ∧
      (s.acknowledge mask).irq.ie = s.irq.ie ∧ (s.acknowledge mask).irq.ime = s.irq.ime ∧
      ∀ b < 14, (s.acknowledge mask).irq.ifl.getLsbD b = (s.irq.ifl.getLsbD b && !mask.getLsbD b)) ∧
    s.writeEnable mask = { s with irq := { s.irq with ie := mask } } ∧
    s.writeMasterEnable flag = { s with irq := { s.irq with ime := flag } } ∧
    (s.irqLine = true ↔ (∃ b < 14, s.irq.ie.getLsbD b = true ∧ s.irq.ifl.getLsbD b = true) ∧ s.irq.ime = true)

/-- IE, IF, IME, the timers and the DMA control words read at their addresses as their rules say, little-endian; the
write-only registers, the IME upper half and the unused bits read 0. -/
def Obligations.IoReads : Prop :=
  ∀ (s : State),
    s.read16 0x04000200 = s.irq.ie.setWidth 16 ∧ s.read16 0x04000202 = s.irq.ifl.setWidth 16 ∧
    s.read16 0x04000208 = (if s.irq.ime then 1 else 0) ∧ s.read16 0x0400020A = 0 ∧ s.read8 0x04000301 = 0 ∧
    ∀ n : Fin 4,
      s.read16 (BitVec.ofNat 32 (0x04000100 + 4 * n.val)) = (s.timers.get n).counter ∧
      (let h := s.read16 (BitVec.ofNat 32 (0x04000102 + 4 * n.val))
       h.extractLsb' 0 2 = (s.timers.get n).prescale ∧ h.getLsbD 2 = (s.timers.get n).cascade ∧
       h.extractLsb' 3 3 = 0 ∧ h.getLsbD 6 = (s.timers.get n).irqOnOverflow ∧
       h.getLsbD 7 = (s.timers.get n).enabled ∧ h.extractLsb' 8 8 = 0) ∧
      s.read16 (BitVec.ofNat 32 (0x040000BA + 12 * n.val)) = (s.dma.get n).ctl &&& 0xFFE0 ∧
      s.read32 (BitVec.ofNat 32 (0x040000B0 + 12 * n.val)) = 0 ∧
      s.read32 (BitVec.ofNat 32 (0x040000B4 + 12 * n.val)) = 0 ∧
      s.read16 (BitVec.ofNat 32 (0x040000B8 + 12 * n.val)) = 0

/-- Halfword writes of IE, IF (a 1 clears), IME and a byte write of HALTCNT (HALT, unless a wake condition already
holds, or STOP); word writes of a DMA address and halfword writes of a count; halfword writes of a timer's reload and
control, the enable edge loading the counter; a byte write changes its own lane only (shown on IE). Memory is
unchanged and no other device field changes. -/
def Obligations.IoWrites : Prop :=
  ∀ (s : State) (v : Word),
    let h : Half := v.setWidth 16
    (let t := s.memWrite 0x04000200 .half v
     SameDevices t { s with irq := { s.irq with ie := h.setWidth 14 } } ∧ t.mem = s.mem) ∧
    (let t := s.memWrite 0x04000201 .byte v
     SameDevices t { s with irq := { s.irq with ie := v.extractLsb' 0 6 ++ s.irq.ie.extractLsb' 0 8 } } ∧
       t.mem = s.mem) ∧
    (let t := s.memWrite 0x04000202 .half v
     SameDevices t { s with irq := { s.irq with ifl := s.irq.ifl &&& ~~~h.setWidth 14 } } ∧ t.mem = s.mem) ∧
    (let t := s.memWrite 0x04000208 .half v
     SameDevices t { s with irq := { s.irq with ime := v.getLsbD 0 } } ∧ t.mem = s.mem) ∧
    (let t := s.memWrite 0x04000301 .byte v
     SameDevices t (if v.getLsbD 7 then { s with stopped := true }
       else if s.irq.ie &&& s.irq.ifl ≠ 0 then s else { s with halted := true }) ∧ t.mem = s.mem) ∧
    ∀ n : Fin 4,
      (let t := s.memWrite (BitVec.ofNat 32 (0x040000B0 + 12 * n.val)) .word v
       SameDevices t { s with dma := s.dma.set n { s.dma.get n with sad := v } } ∧ t.mem = s.mem) ∧
      (let t := s.memWrite (BitVec.ofNat 32 (0x040000B4 + 12 * n.val)) .word v
       SameDevices t { s with dma := s.dma.set n { s.dma.get n with dad := v } } ∧ t.mem = s.mem) ∧
      (let t := s.memWrite (BitVec.ofNat 32 (0x040000B8 + 12 * n.val)) .half v
       SameDevices t { s with dma := s.dma.set n { s.dma.get n with cnt := h } } ∧ t.mem = s.mem) ∧
      (let t := s.memWrite (BitVec.ofNat 32 (0x04000100 + 4 * n.val)) .half v
       SameDevices t { s with timers := s.timers.set n { s.timers.get n with reload := h } } ∧ t.mem = s.mem) ∧
      (let t := s.memWrite (BitVec.ofNat 32 (0x04000102 + 4 * n.val)) .half v
       let old := s.timers.get n
       let edge := h.getLsbD 7 && !old.enabled
       let next : Timer :=
         { counter := if edge then old.reload else old.counter
           reload := old.reload
           prescale := h.extractLsb' 0 2
           precounter := if edge then 0 else old.precounter
           enabled := h.getLsbD 7
           irqOnOverflow := h.getLsbD 6
           cascade := h.getLsbD 2 }
       SameDevices t { s with timers := s.timers.set n next } ∧ t.mem = s.mem)

/-- A halfword written to DMAnCNT_H: the enable edge latches the masked addresses and count and arms the one trigger
type (channel 0 has no special one), an immediate one being its own trigger; a channel that stays enabled keeps its
shadows and only the pending triggers of the new type; a disabled one has none; arbitration follows; other channels,
interrupts and memory are unchanged. -/
def Obligations.DmaEnable : Prop :=
  ∀ (s : State) (n : Fin 4) (v : Word),
    let new : Half := v.setWidth 16
    let c := s.dma.get n
    let b := typeBit n (new.extractLsb' 12 2)
    let t := s.memWrite (BitVec.ofNat 32 (0x040000BA + 12 * n.val)) .half v
    (∀ m, m ≠ n → t.dma.get m = s.dma.get m) ∧ t.irq = s.irq ∧ t.timers = s.timers ∧ t.mem = s.mem ∧
    t.halted = s.halted ∧ t.stopped = s.stopped ∧ Arbitrated t ∧
    (new.getLsbD 15 = true → c.ctl.getLsbD 15 = false →
      t.dma.get n = { c with
        ctl := new &&& 0xFFE0
        srcShadow := c.sad &&& (if n = 0 then 0x07FFFFFF else 0x0FFFFFFF)
        dstShadow := c.dad &&& (if n = 3 then 0x0FFFFFFF else 0x07FFFFFF)
        cntShadow := c.cnt &&& (if n = 3 then 0xFFFF else 0x3FFF)
        enabledMask := b
        pendingMask := if new.extractLsb' 12 2 = 0#2 then 1#4 else 0 }) ∧
    (new.getLsbD 15 = true → c.ctl.getLsbD 15 = true →
      t.dma.get n = { c with ctl := new &&& 0xFFE0, enabledMask := b, pendingMask := c.pendingMask &&& b }) ∧
    (new.getLsbD 15 = false →
      t.dma.get n = { c with ctl := new &&& 0xFFE0, enabledMask := 0, pendingMask := 0 })

/-- A unit of channel n whose destination is memory: the aligned word or halfword at the source shadow lands at the
aligned destination shadow and is the bus value; both shadows move by their codes inside their masks, the destination
of a sound-FIFO block staying; the count or the FIFO units go down by one. At zero the interrupt is requested if asked
for; a repeating, not immediate channel reloads the count (and with code 3 the destination) and waits for its next
trigger, any other is disabled. Before zero the requests and the armed channel stay. Either way nothing changes but
memory, this channel, the requests, the armed channel, the bus value, the last bus access and the clocks of the step.
A sound-FIFO unit asked for with no unit left leaves 0 left and ends the block (the model's choice, log entry 25); a
destination in the block's own registers is not spoken of (log entry 31). -/
def Obligations.DmaUnit : Prop :=
  ∀ (s : State) (n : Fin 4), Memory.wf s.mem = true →
    let c := s.dma.get n
    let timing := c.ctl.extractLsb' 12 2
    let fifo : Bool := decide ((n = 1 ∨ n = 2) ∧ timing = 3#2)
    let size : Nat := if fifo ∨ c.ctl.getLsbD 10 = true then 4 else 2
    let src := c.srcShadow.toNat / size * size
    let dst := c.dstShadow.toNat / size * size
    let v : Word := if size = 4 then wordAt s src else (0#16 ++ (s.byteAt (src + 1) ++ s.byteAt src) : Word)
    let srcMask : Word := if n = 0 then 0x07FFFFFF else 0x0FFFFFFF
    let dstMask : Word := if n = 3 then 0x0FFFFFFF else 0x07FFFFFF
    let cntMask : Half := if n = 3 then 0xFFFF else 0x3FFF
    (∀ j < size, isIo (dst + j) = false) →
    let t := s.performUnit n
    let moved : DmaChannel := { c with
      srcShadow := movedShadow (c.ctl.extractLsb' 7 2) c.srcShadow (BitVec.ofNat 32 size) srcMask
      dstShadow := movedShadow (if fifo then 2#2 else c.ctl.extractLsb' 5 2) c.dstShadow (BitVec.ofNat 32 size) dstMask
      cntShadow := if fifo then c.cntShadow else (c.cntShadow - 1) &&& cntMask
      fifoUnits := if fifo then Fin.ofNat 5 (c.fifoUnits.val - 1) else c.fifoUnits }
    let done : Prop := if fifo then c.fifoUnits.val - 1 = 0 else moved.cntShadow = 0
    StoredBytes s t [⟨dst, size, v⟩] ∧
    t.dmaBusValue = (if size = 4 then v else BitVec.ofNat 32 (v.toNat * 0x10001)) ∧
    (∀ m, m ≠ n → t.dma.get m = s.dma.get m) ∧
    t = { s with mem := t.mem, dma := t.dma, irq := t.irq, armed := t.armed, dmaBusValue := t.dmaBusValue
                 busLast := t.busLast, stepClocks := t.stepClocks } ∧
    (¬done → t.dma.get n = moved ∧ t.irq = s.irq ∧ t.armed = s.armed) ∧
    (done → Arbitrated t ∧
      t.irq = (if c.ctl.getLsbD 14 then
        { s.irq with ifl := s.irq.ifl ||| BitVec.ofNat 14 (2 ^ (8 + n.val)) } else s.irq) ∧
      t.dma.get n =
        if c.ctl.getLsbD 9 = true ∧ timing ≠ 0#2 then
          { moved with
            pendingMask := c.pendingMask &&& ~~~typeBit n timing
            cntShadow := if fifo then moved.cntShadow else c.cnt &&& cntMask
            dstShadow := if fifo = false ∧ c.ctl.extractLsb' 5 2 = 3#2 then c.dad &&& dstMask else moved.dstShadow }
        else { moved with ctl := c.ctl &&& 0x7FFF, enabledMask := 0, pendingMask := 0 })

/-- requestTrigger sets the pending bit of an enabled type and loses any other; a new special trigger of channel 1 or
2 starts a block of four units; then the lowest-numbered channel with an enabled trigger pending is armed, and arming
another channel makes the next access non-sequential; nothing else changes. -/
def Obligations.DmaTriggers : Prop :=
  ∀ (s : State) (n : Fin 4) (ty : BitVec 2),
    let c := s.dma.get n
    let b := typeBit n ty
    let t := s.requestTrigger n ty
    t = { s with dma := t.dma, armed := t.armed, busLast := t.busLast } ∧
    (∀ m, m ≠ n → t.dma.get m = s.dma.get m) ∧
    (c.enabledMask &&& b = 0 → t.dma.get n = c) ∧
    (c.enabledMask &&& b ≠ 0 → t.dma.get n = { c with
      pendingMask := c.pendingMask ||| b
      fifoUnits := if c.pendingMask &&& b = 0 ∧ ty = 3#2 ∧ (n = 1 ∨ n = 2) then 4 else c.fifoUnits }) ∧
    Arbitrated t ∧
    t.busLast = if t.armed ≠ s.armed ∧ t.armed ≠ none then none else s.busLast

/-- A tick counts up by one; from 0xFFFF it reloads, requests the timer's interrupt if flagged, emits one overflow
event, and ticks the timer above once if that one is enabled in count-up mode; nothing else changes. -/
def Obligations.TimerTick : Prop :=
  ∀ (s : State) (n : Fin 4),
    let t := s.timers.get n
    let spill : State := { s with
      timers := s.timers.set n { t with counter := t.reload }
      irq := if t.irqOnOverflow then { s.irq with ifl := s.irq.ifl ||| BitVec.ofNat 14 (2 ^ (3 + n.val)) } else s.irq
      out := s.out ++ [.timerOverflow n] }
    let chained (m : Fin 4) : Prop :=
      m.val = n.val + 1 ∧ (s.timers.get m).enabled = true ∧ (s.timers.get m).cascade = true
    (t.counter ≠ 0xFFFF → s.tick n = { s with timers := s.timers.set n { t with counter := t.counter + 1 } }) ∧
    (t.counter = 0xFFFF → (∀ m, chained m → s.tick n = spill.tick m) ∧ ((∀ m, ¬chained m) → s.tick n = spill))

/-- After k ticks of timer n the counter is given in closed form by counter, reload and k, exactly as many overflow
events of that timer have been emitted as the closed form counts, and no timer below it has changed. -/
def Obligations.TimerClosedForm : Prop :=
  ∀ (s : State) (n : Fin 4) (k : Nat),
    let t := s.timers.get n
    let u := s.ticks n k
    (u.timers.get n).counter = BitVec.ofNat 16 (counterAfter t.counter.toNat t.reload.toNat k) ∧
    u.out.count (.timerOverflow n) = s.out.count (.timerOverflow n) + overflowsIn t.counter.toNat t.reload.toNat k ∧
    ∀ m : Fin 4, m < n → u.timers.get m = s.timers.get m

/-- For a timer that counts prescaled clocks, with its accumulator below one tick: fewer clocks than predicted bring
no overflow, exactly that many bring one. -/
def Obligations.PredictionExact : Prop :=
  ∀ (s : State) (n : Fin 4) (d : Nat),
    let t := s.timers.get n
    t.clocked n = true → t.precounter.toNat < 2 ^ prescaleShift t.prescale → s.nextOverflow n 1 = some d →
    (∀ c < d, (s.timerClocks n c).out = s.out) ∧ OutEvent.timerOverflow n ∈ (s.timerClocks n d).out.drop s.out.length

/-- When advance returns a state: its target is the old target plus the budget, the clock has reached it, carry is
exactly the overshoot, time has not gone back, and one flush ends the output; if the earlier overshoot already covers
the budget no step runs. -/
def Obligations.AdvanceBudget : Prop :=
  ∀ (budget fuel : Nat) (s t : State), advance budget fuel s = some (.next t) →
    t.budgetEnd = s.budgetEnd + budget ∧ t.clock = t.budgetEnd + t.carry ∧ t.iterationEnd = true ∧ s.clock ≤ t.clock ∧
    (∃ o, t.out = s.out ++ o ++ [.flush]) ∧
    (s.budgetEnd + budget ≤ s.clock → t.regs = s.regs ∧ t.pc = s.pc ∧ t.clock = s.clock ∧ t.mem = s.mem)
end

