-- ==== Sys2Proof/Laws/Memory.lean ====
section
/-! SUPPORT. The laws of the byte memory: a read after a write, and the canonical form. -/

namespace Sys2Proof.Machine

/-- A write leaves every other byte alone. -/
theorem Memory.read_write_other (m : List Host.Cell) {a b : Nat} (v : Byte) (h : b ≠ a) :
    Memory.read (Memory.write m a v) b = Memory.read m b := by
  induction m with
  | nil => unfold Memory.write; split <;> simp [Memory.read, h.symm]
  | cons x rest ih =>
    obtain ⟨k, c⟩ := x
    unfold Memory.write
    split
    · split <;> simp [Memory.read, h.symm]
    · split
      · rename_i hk; subst hk
        split <;> simp [Memory.read, h.symm]
      · simp [Memory.read, ih]

theorem Memory.wfFrom_mono {m : List Host.Cell} {lo hi : Nat} (h : Memory.wfFrom hi m = true) (k : lo ≤ hi) :
    Memory.wfFrom lo m = true := by
  cases m with
  | nil => rfl
  | cons x rest =>
    simp only [Memory.wfFrom, Bool.and_eq_true, decide_eq_true_eq] at h ⊢
    exact ⟨⟨⟨k.trans h.1.1.1, h.1.1.2⟩, h.1.2⟩, h.2⟩

/-- Below its bound a canonical memory lists nothing. -/
theorem Memory.read_below {m : List Host.Cell} {lo a : Nat} (h : Memory.wfFrom lo m = true) (k : a < lo) :
    Memory.read m a = Config.unlistedByte := by
  induction m generalizing lo with
  | nil => rfl
  | cons x rest ih =>
    simp only [Memory.wfFrom, Bool.and_eq_true, decide_eq_true_eq] at h
    have hne : x.1 ≠ a := by omega
    simp only [Memory.read, hne, if_false]
    exact ih h.2 (by omega)

/-- A read after a write to the same byte gives the value written. -/
theorem Memory.read_write_same {m : List Host.Cell} {lo a : Nat} (v : Byte) (h : Memory.wfFrom lo m = true) :
    Memory.read (Memory.write m a v) a = v := by
  induction m generalizing lo with
  | nil => unfold Memory.write; split <;> simp_all [Memory.read]
  | cons x rest ih =>
    obtain ⟨k, c⟩ := x
    simp only [Memory.wfFrom, Bool.and_eq_true, decide_eq_true_eq] at h
    unfold Memory.write
    split
    · rename_i hlt
      split
      · rename_i hv
        have hne : k ≠ a := by omega
        simp only [Memory.read, hne, if_false]
        rw [hv]; exact Memory.read_below h.2 (by omega)
      · simp [Memory.read]
    · split
      · rename_i hk
        split
        · rename_i hv; rw [hv]; exact Memory.read_below h.2 (by omega)
        · simp [Memory.read]
      · rename_i hk
        simp only [Memory.read, Ne.symm hk, if_false]
        exact ih h.2

theorem Memory.wfFrom_write {m : List Host.Cell} {lo a : Nat} (v : Byte) (h : Memory.wfFrom lo m = true) (hlo : lo ≤ a)
    (ha : a < 2 ^ 32) : Memory.wfFrom lo (Memory.write m a v) = true := by
  induction m generalizing lo with
  | nil =>
    unfold Memory.write
    split
    · rfl
    · simp_all [Memory.wfFrom]
  | cons x rest ih =>
    obtain ⟨k, c⟩ := x
    have h0 := h
    simp only [Memory.wfFrom, Bool.and_eq_true, decide_eq_true_eq] at h
    unfold Memory.write
    split
    · rename_i hlt
      split
      · exact h0
      · rename_i hv
        simp only [Memory.wfFrom, Bool.and_eq_true, decide_eq_true_eq]
        exact ⟨⟨⟨hlo, ha⟩, hv⟩, ⟨⟨by omega, h.1.1.2⟩, h.1.2⟩, h.2⟩
    · split
      · rename_i hk
        split
        · exact Memory.wfFrom_mono h.2 (by omega)
        · rename_i hv
          simp only [Memory.wfFrom, Bool.and_eq_true, decide_eq_true_eq]
          exact ⟨⟨⟨hlo, ha⟩, hv⟩, by rw [hk]; exact h.2⟩
      · simp only [Memory.wfFrom, Bool.and_eq_true, decide_eq_true_eq]
        exact ⟨⟨⟨h.1.1.1, h.1.1.2⟩, h.1.2⟩, ih h.2 (by omega)⟩

/-- A write inside the address space keeps the canonical form. -/
theorem Memory.wf_write {m : List Host.Cell} {a : Nat} (v : Byte) (h : Memory.wf m = true) (ha : a < 2 ^ 32) :
    Memory.wf (Memory.write m a v) = true :=
  Memory.wfFrom_write v h (Nat.zero_le a) ha

theorem Memory.wf_nil : Memory.wf [] = true := rfl

end Sys2Proof.Machine
end

