-- ==== Sys2Proof/Laws/State.lean ====
section
/-! SUPPORT. What each operation on State can change: for each one lemma that says it all (`_only`), and the projections
it leaves alone as simp lemmas. -/

namespace Sys2Proof.Machine

theorem branch_only (s : State) (a : Word) : s.branch a = { s with pc := (s.branch a).pc, bubble := (s.branch a).bubble } := rfl
@[simp] theorem branch_regs (s : State) (a : Word) : (s.branch a).regs = s.regs := (congrArg State.regs (branch_only s a)).trans rfl
@[simp] theorem branch_cpsr (s : State) (a : Word) : (s.branch a).cpsr = s.cpsr := (congrArg State.cpsr (branch_only s a)).trans rfl
@[simp] theorem branch_spsr (s : State) (a : Word) : (s.branch a).spsr = s.spsr := (congrArg State.spsr (branch_only s a)).trans rfl
@[simp] theorem branch_slotExec (s : State) (a : Word) : (s.branch a).slotExec = s.slotExec := (congrArg State.slotExec (branch_only s a)).trans rfl
@[simp] theorem branch_slotDecode (s : State) (a : Word) : (s.branch a).slotDecode = s.slotDecode := (congrArg State.slotDecode (branch_only s a)).trans rfl
@[simp] theorem branch_lastFetch (s : State) (a : Word) : (s.branch a).lastFetch = s.lastFetch := (congrArg State.lastFetch (branch_only s a)).trans rfl
@[simp] theorem branch_halted (s : State) (a : Word) : (s.branch a).halted = s.halted := (congrArg State.halted (branch_only s a)).trans rfl
@[simp] theorem branch_stopped (s : State) (a : Word) : (s.branch a).stopped = s.stopped := (congrArg State.stopped (branch_only s a)).trans rfl
@[simp] theorem branch_iterationEnd (s : State) (a : Word) : (s.branch a).iterationEnd = s.iterationEnd := (congrArg State.iterationEnd (branch_only s a)).trans rfl
@[simp] theorem branch_irq (s : State) (a : Word) : (s.branch a).irq = s.irq := (congrArg State.irq (branch_only s a)).trans rfl
@[simp] theorem branch_dma (s : State) (a : Word) : (s.branch a).dma = s.dma := (congrArg State.dma (branch_only s a)).trans rfl
@[simp] theorem branch_armed (s : State) (a : Word) : (s.branch a).armed = s.armed := (congrArg State.armed (branch_only s a)).trans rfl
@[simp] theorem branch_dmaBusValue (s : State) (a : Word) : (s.branch a).dmaBusValue = s.dmaBusValue := (congrArg State.dmaBusValue (branch_only s a)).trans rfl
@[simp] theorem branch_timers (s : State) (a : Word) : (s.branch a).timers = s.timers := (congrArg State.timers (branch_only s a)).trans rfl
@[simp] theorem branch_clock (s : State) (a : Word) : (s.branch a).clock = s.clock := (congrArg State.clock (branch_only s a)).trans rfl
@[simp] theorem branch_budgetEnd (s : State) (a : Word) : (s.branch a).budgetEnd = s.budgetEnd := (congrArg State.budgetEnd (branch_only s a)).trans rfl
@[simp] theorem branch_carry (s : State) (a : Word) : (s.branch a).carry = s.carry := (congrArg State.carry (branch_only s a)).trans rfl
@[simp] theorem branch_busLast (s : State) (a : Word) : (s.branch a).busLast = s.busLast := (congrArg State.busLast (branch_only s a)).trans rfl
@[simp] theorem branch_mem (s : State) (a : Word) : (s.branch a).mem = s.mem := (congrArg State.mem (branch_only s a)).trans rfl
@[simp] theorem branch_env (s : State) (a : Word) : (s.branch a).env = s.env := (congrArg State.env (branch_only s a)).trans rfl
@[simp] theorem branch_out (s : State) (a : Word) : (s.branch a).out = s.out := (congrArg State.out (branch_only s a)).trans rfl
@[simp] theorem branch_stepClocks (s : State) (a : Word) : (s.branch a).stepClocks = s.stepClocks := (congrArg State.stepClocks (branch_only s a)).trans rfl
@[simp] theorem branch_freeCount (s : State) (a : Word) : (s.branch a).freeCount = s.freeCount := (congrArg State.freeCount (branch_only s a)).trans rfl
@[simp] theorem branch_userLdm (s : State) (a : Word) : (s.branch a).userLdm = s.userLdm := (congrArg State.userLdm (branch_only s a)).trans rfl

theorem setRegIn_only (s : State) (m : Mode) (r : RegNo) (v : Word) : s.setRegIn m r v = { s with regs := (s.setRegIn m r v).regs, pc := (s.setRegIn m r v).pc, bubble := (s.setRegIn m r v).bubble } := by
  unfold State.setRegIn; split <;> rfl
@[simp] theorem setRegIn_cpsr (s : State) (m : Mode) (r : RegNo) (v : Word) : (s.setRegIn m r v).cpsr = s.cpsr := (congrArg State.cpsr (setRegIn_only s m r v)).trans rfl
@[simp] theorem setRegIn_spsr (s : State) (m : Mode) (r : RegNo) (v : Word) : (s.setRegIn m r v).spsr = s.spsr := (congrArg State.spsr (setRegIn_only s m r v)).trans rfl
@[simp] theorem setRegIn_slotExec (s : State) (m : Mode) (r : RegNo) (v : Word) : (s.setRegIn m r v).slotExec = s.slotExec := (congrArg State.slotExec (setRegIn_only s m r v)).trans rfl
@[simp] theorem setRegIn_slotDecode (s : State) (m : Mode) (r : RegNo) (v : Word) : (s.setRegIn m r v).slotDecode = s.slotDecode := (congrArg State.slotDecode (setRegIn_only s m r v)).trans rfl
@[simp] theorem setRegIn_lastFetch (s : State) (m : Mode) (r : RegNo) (v : Word) : (s.setRegIn m r v).lastFetch = s.lastFetch := (congrArg State.lastFetch (setRegIn_only s m r v)).trans rfl
@[simp] theorem setRegIn_halted (s : State) (m : Mode) (r : RegNo) (v : Word) : (s.setRegIn m r v).halted = s.halted := (congrArg State.halted (setRegIn_only s m r v)).trans rfl
@[simp] theorem setRegIn_stopped (s : State) (m : Mode) (r : RegNo) (v : Word) : (s.setRegIn m r v).stopped = s.stopped := (congrArg State.stopped (setRegIn_only s m r v)).trans rfl
@[simp] theorem setRegIn_iterationEnd (s : State) (m : Mode) (r : RegNo) (v : Word) : (s.setRegIn m r v).iterationEnd = s.iterationEnd := (congrArg State.iterationEnd (setRegIn_only s m r v)).trans rfl
@[simp] theorem setRegIn_irq (s : State) (m : Mode) (r : RegNo) (v : Word) : (s.setRegIn m r v).irq = s.irq := (congrArg State.irq (setRegIn_only s m r v)).trans rfl
@[simp] theorem setRegIn_dma (s : State) (m : Mode) (r : RegNo) (v : Word) : (s.setRegIn m r v).dma = s.dma := (congrArg State.dma (setRegIn_only s m r v)).trans rfl
@[simp] theorem setRegIn_armed (s : State) (m : Mode) (r : RegNo) (v : Word) : (s.setRegIn m r v).armed = s.armed := (congrArg State.armed (setRegIn_only s m r v)).trans rfl
@[simp] theorem setRegIn_dmaBusValue (s : State) (m : Mode) (r : RegNo) (v : Word) : (s.setRegIn m r v).dmaBusValue = s.dmaBusValue := (congrArg State.dmaBusValue (setRegIn_only s m r v)).trans rfl
@[simp] theorem setRegIn_timers (s : State) (m : Mode) (r : RegNo) (v : Word) : (s.setRegIn m r v).timers = s.timers := (congrArg State.timers (setRegIn_only s m r v)).trans rfl
@[simp] theorem setRegIn_clock (s : State) (m : Mode) (r : RegNo) (v : Word) : (s.setRegIn m r v).clock = s.clock := (congrArg State.clock (setRegIn_only s m r v)).trans rfl
@[simp] theorem setRegIn_budgetEnd (s : State) (m : Mode) (r : RegNo) (v : Word) : (s.setRegIn m r v).budgetEnd = s.budgetEnd := (congrArg State.budgetEnd (setRegIn_only s m r v)).trans rfl
@[simp] theorem setRegIn_carry (s : State) (m : Mode) (r : RegNo) (v : Word) : (s.setRegIn m r v).carry = s.carry := (congrArg State.carry (setRegIn_only s m r v)).trans rfl
@[simp] theorem setRegIn_busLast (s : State) (m : Mode) (r : RegNo) (v : Word) : (s.setRegIn m r v).busLast = s.busLast := (congrArg State.busLast (setRegIn_only s m r v)).trans rfl
@[simp] theorem setRegIn_mem (s : State) (m : Mode) (r : RegNo) (v : Word) : (s.setRegIn m r v).mem = s.mem := (congrArg State.mem (setRegIn_only s m r v)).trans rfl
@[simp] theorem setRegIn_env (s : State) (m : Mode) (r : RegNo) (v : Word) : (s.setRegIn m r v).env = s.env := (congrArg State.env (setRegIn_only s m r v)).trans rfl
@[simp] theorem setRegIn_out (s : State) (m : Mode) (r : RegNo) (v : Word) : (s.setRegIn m r v).out = s.out := (congrArg State.out (setRegIn_only s m r v)).trans rfl
@[simp] theorem setRegIn_stepClocks (s : State) (m : Mode) (r : RegNo) (v : Word) : (s.setRegIn m r v).stepClocks = s.stepClocks := (congrArg State.stepClocks (setRegIn_only s m r v)).trans rfl
@[simp] theorem setRegIn_freeCount (s : State) (m : Mode) (r : RegNo) (v : Word) : (s.setRegIn m r v).freeCount = s.freeCount := (congrArg State.freeCount (setRegIn_only s m r v)).trans rfl
@[simp] theorem setRegIn_userLdm (s : State) (m : Mode) (r : RegNo) (v : Word) : (s.setRegIn m r v).userLdm = s.userLdm := (congrArg State.userLdm (setRegIn_only s m r v)).trans rfl

theorem setReg_only (s : State) (r : RegNo) (v : Word) : s.setReg r v = { s with regs := (s.setReg r v).regs, pc := (s.setReg r v).pc, bubble := (s.setReg r v).bubble } := setRegIn_only s s.cpsr.mode r v
@[simp] theorem setReg_cpsr (s : State) (r : RegNo) (v : Word) : (s.setReg r v).cpsr = s.cpsr := (congrArg State.cpsr (setReg_only s r v)).trans rfl
@[simp] theorem setReg_spsr (s : State) (r : RegNo) (v : Word) : (s.setReg r v).spsr = s.spsr := (congrArg State.spsr (setReg_only s r v)).trans rfl
@[simp] theorem setReg_slotExec (s : State) (r : RegNo) (v : Word) : (s.setReg r v).slotExec = s.slotExec := (congrArg State.slotExec (setReg_only s r v)).trans rfl
@[simp] theorem setReg_slotDecode (s : State) (r : RegNo) (v : Word) : (s.setReg r v).slotDecode = s.slotDecode := (congrArg State.slotDecode (setReg_only s r v)).trans rfl
@[simp] theorem setReg_lastFetch (s : State) (r : RegNo) (v : Word) : (s.setReg r v).lastFetch = s.lastFetch := (congrArg State.lastFetch (setReg_only s r v)).trans rfl
@[simp] theorem setReg_halted (s : State) (r : RegNo) (v : Word) : (s.setReg r v).halted = s.halted := (congrArg State.halted (setReg_only s r v)).trans rfl
@[simp] theorem setReg_stopped (s : State) (r : RegNo) (v : Word) : (s.setReg r v).stopped = s.stopped := (congrArg State.stopped (setReg_only s r v)).trans rfl
@[simp] theorem setReg_iterationEnd (s : State) (r : RegNo) (v : Word) : (s.setReg r v).iterationEnd = s.iterationEnd := (congrArg State.iterationEnd (setReg_only s r v)).trans rfl
@[simp] theorem setReg_irq (s : State) (r : RegNo) (v : Word) : (s.setReg r v).irq = s.irq := (congrArg State.irq (setReg_only s r v)).trans rfl
@[simp] theorem setReg_dma (s : State) (r : RegNo) (v : Word) : (s.setReg r v).dma = s.dma := (congrArg State.dma (setReg_only s r v)).trans rfl
@[simp] theorem setReg_armed (s : State) (r : RegNo) (v : Word) : (s.setReg r v).armed = s.armed := (congrArg State.armed (setReg_only s r v)).trans rfl
@[simp] theorem setReg_dmaBusValue (s : State) (r : RegNo) (v : Word) : (s.setReg r v).dmaBusValue = s.dmaBusValue := (congrArg State.dmaBusValue (setReg_only s r v)).trans rfl
@[simp] theorem setReg_timers (s : State) (r : RegNo) (v : Word) : (s.setReg r v).timers = s.timers := (congrArg State.timers (setReg_only s r v)).trans rfl
@[simp] theorem setReg_clock (s : State) (r : RegNo) (v : Word) : (s.setReg r v).clock = s.clock := (congrArg State.clock (setReg_only s r v)).trans rfl
@[simp] theorem setReg_budgetEnd (s : State) (r : RegNo) (v : Word) : (s.setReg r v).budgetEnd = s.budgetEnd := (congrArg State.budgetEnd (setReg_only s r v)).trans rfl
@[simp] theorem setReg_carry (s : State) (r : RegNo) (v : Word) : (s.setReg r v).carry = s.carry := (congrArg State.carry (setReg_only s r v)).trans rfl
@[simp] theorem setReg_busLast (s : State) (r : RegNo) (v : Word) : (s.setReg r v).busLast = s.busLast := (congrArg State.busLast (setReg_only s r v)).trans rfl
@[simp] theorem setReg_mem (s : State) (r : RegNo) (v : Word) : (s.setReg r v).mem = s.mem := (congrArg State.mem (setReg_only s r v)).trans rfl
@[simp] theorem setReg_env (s : State) (r : RegNo) (v : Word) : (s.setReg r v).env = s.env := (congrArg State.env (setReg_only s r v)).trans rfl
@[simp] theorem setReg_out (s : State) (r : RegNo) (v : Word) : (s.setReg r v).out = s.out := (congrArg State.out (setReg_only s r v)).trans rfl
@[simp] theorem setReg_stepClocks (s : State) (r : RegNo) (v : Word) : (s.setReg r v).stepClocks = s.stepClocks := (congrArg State.stepClocks (setReg_only s r v)).trans rfl
@[simp] theorem setReg_freeCount (s : State) (r : RegNo) (v : Word) : (s.setReg r v).freeCount = s.freeCount := (congrArg State.freeCount (setReg_only s r v)).trans rfl
@[simp] theorem setReg_userLdm (s : State) (r : RegNo) (v : Word) : (s.setReg r v).userLdm = s.userLdm := (congrArg State.userLdm (setReg_only s r v)).trans rfl

theorem setUserReg_only (s : State) (r : RegNo) (v : Word) : s.setUserReg r v = { s with regs := (s.setUserReg r v).regs, pc := (s.setUserReg r v).pc, bubble := (s.setUserReg r v).bubble } := setRegIn_only s .user r v
@[simp] theorem setUserReg_cpsr (s : State) (r : RegNo) (v : Word) : (s.setUserReg r v).cpsr = s.cpsr := (congrArg State.cpsr (setUserReg_only s r v)).trans rfl
@[simp] theorem setUserReg_spsr (s : State) (r : RegNo) (v : Word) : (s.setUserReg r v).spsr = s.spsr := (congrArg State.spsr (setUserReg_only s r v)).trans rfl
@[simp] theorem setUserReg_slotExec (s : State) (r : RegNo) (v : Word) : (s.setUserReg r v).slotExec = s.slotExec := (congrArg State.slotExec (setUserReg_only s r v)).trans rfl
@[simp] theorem setUserReg_slotDecode (s : State) (r : RegNo) (v : Word) : (s.setUserReg r v).slotDecode = s.slotDecode := (congrArg State.slotDecode (setUserReg_only s r v)).trans rfl
@[simp] theorem setUserReg_lastFetch (s : State) (r : RegNo) (v : Word) : (s.setUserReg r v).lastFetch = s.lastFetch := (congrArg State.lastFetch (setUserReg_only s r v)).trans rfl
@[simp] theorem setUserReg_halted (s : State) (r : RegNo) (v : Word) : (s.setUserReg r v).halted = s.halted := (congrArg State.halted (setUserReg_only s r v)).trans rfl
@[simp] theorem setUserReg_stopped (s : State) (r : RegNo) (v : Word) : (s.setUserReg r v).stopped = s.stopped := (congrArg State.stopped (setUserReg_only s r v)).trans rfl
@[simp] theorem setUserReg_iterationEnd (s : State) (r : RegNo) (v : Word) : (s.setUserReg r v).iterationEnd = s.iterationEnd := (congrArg State.iterationEnd (setUserReg_only s r v)).trans rfl
@[simp] theorem setUserReg_irq (s : State) (r : RegNo) (v : Word) : (s.setUserReg r v).irq = s.irq := (congrArg State.irq (setUserReg_only s r v)).trans rfl
@[simp] theorem setUserReg_dma (s : State) (r : RegNo) (v : Word) : (s.setUserReg r v).dma = s.dma := (congrArg State.dma (setUserReg_only s r v)).trans rfl
@[simp] theorem setUserReg_armed (s : State) (r : RegNo) (v : Word) : (s.setUserReg r v).armed = s.armed := (congrArg State.armed (setUserReg_only s r v)).trans rfl
@[simp] theorem setUserReg_dmaBusValue (s : State) (r : RegNo) (v : Word) : (s.setUserReg r v).dmaBusValue = s.dmaBusValue := (congrArg State.dmaBusValue (setUserReg_only s r v)).trans rfl
@[simp] theorem setUserReg_timers (s : State) (r : RegNo) (v : Word) : (s.setUserReg r v).timers = s.timers := (congrArg State.timers (setUserReg_only s r v)).trans rfl
@[simp] theorem setUserReg_clock (s : State) (r : RegNo) (v : Word) : (s.setUserReg r v).clock = s.clock := (congrArg State.clock (setUserReg_only s r v)).trans rfl
@[simp] theorem setUserReg_budgetEnd (s : State) (r : RegNo) (v : Word) : (s.setUserReg r v).budgetEnd = s.budgetEnd := (congrArg State.budgetEnd (setUserReg_only s r v)).trans rfl
@[simp] theorem setUserReg_carry (s : State) (r : RegNo) (v : Word) : (s.setUserReg r v).carry = s.carry := (congrArg State.carry (setUserReg_only s r v)).trans rfl
@[simp] theorem setUserReg_busLast (s : State) (r : RegNo) (v : Word) : (s.setUserReg r v).busLast = s.busLast := (congrArg State.busLast (setUserReg_only s r v)).trans rfl
@[simp] theorem setUserReg_mem (s : State) (r : RegNo) (v : Word) : (s.setUserReg r v).mem = s.mem := (congrArg State.mem (setUserReg_only s r v)).trans rfl
@[simp] theorem setUserReg_env (s : State) (r : RegNo) (v : Word) : (s.setUserReg r v).env = s.env := (congrArg State.env (setUserReg_only s r v)).trans rfl
@[simp] theorem setUserReg_out (s : State) (r : RegNo) (v : Word) : (s.setUserReg r v).out = s.out := (congrArg State.out (setUserReg_only s r v)).trans rfl
@[simp] theorem setUserReg_stepClocks (s : State) (r : RegNo) (v : Word) : (s.setUserReg r v).stepClocks = s.stepClocks := (congrArg State.stepClocks (setUserReg_only s r v)).trans rfl
@[simp] theorem setUserReg_freeCount (s : State) (r : RegNo) (v : Word) : (s.setUserReg r v).freeCount = s.freeCount := (congrArg State.freeCount (setUserReg_only s r v)).trans rfl
@[simp] theorem setUserReg_userLdm (s : State) (r : RegNo) (v : Word) : (s.setUserReg r v).userLdm = s.userLdm := (congrArg State.userLdm (setUserReg_only s r v)).trans rfl

theorem internal_only (s : State) (k : Nat) : s.internal k = { s with stepClocks := (s.internal k).stepClocks } := rfl
@[simp] theorem internal_regs (s : State) (k : Nat) : (s.internal k).regs = s.regs := (congrArg State.regs (internal_only s k)).trans rfl
@[simp] theorem internal_cpsr (s : State) (k : Nat) : (s.internal k).cpsr = s.cpsr := (congrArg State.cpsr (internal_only s k)).trans rfl
@[simp] theorem internal_spsr (s : State) (k : Nat) : (s.internal k).spsr = s.spsr := (congrArg State.spsr (internal_only s k)).trans rfl
@[simp] theorem internal_pc (s : State) (k : Nat) : (s.internal k).pc = s.pc := (congrArg State.pc (internal_only s k)).trans rfl
@[simp] theorem internal_slotExec (s : State) (k : Nat) : (s.internal k).slotExec = s.slotExec := (congrArg State.slotExec (internal_only s k)).trans rfl
@[simp] theorem internal_slotDecode (s : State) (k : Nat) : (s.internal k).slotDecode = s.slotDecode := (congrArg State.slotDecode (internal_only s k)).trans rfl
@[simp] theorem internal_bubble (s : State) (k : Nat) : (s.internal k).bubble = s.bubble := (congrArg State.bubble (internal_only s k)).trans rfl
@[simp] theorem internal_lastFetch (s : State) (k : Nat) : (s.internal k).lastFetch = s.lastFetch := (congrArg State.lastFetch (internal_only s k)).trans rfl
@[simp] theorem internal_halted (s : State) (k : Nat) : (s.internal k).halted = s.halted := (congrArg State.halted (internal_only s k)).trans rfl
@[simp] theorem internal_stopped (s : State) (k : Nat) : (s.internal k).stopped = s.stopped := (congrArg State.stopped (internal_only s k)).trans rfl
@[simp] theorem internal_iterationEnd (s : State) (k : Nat) : (s.internal k).iterationEnd = s.iterationEnd := (congrArg State.iterationEnd (internal_only s k)).trans rfl
@[simp] theorem internal_irq (s : State) (k : Nat) : (s.internal k).irq = s.irq := (congrArg State.irq (internal_only s k)).trans rfl
@[simp] theorem internal_dma (s : State) (k : Nat) : (s.internal k).dma = s.dma := (congrArg State.dma (internal_only s k)).trans rfl
@[simp] theorem internal_armed (s : State) (k : Nat) : (s.internal k).armed = s.armed := (congrArg State.armed (internal_only s k)).trans rfl
@[simp] theorem internal_dmaBusValue (s : State) (k : Nat) : (s.internal k).dmaBusValue = s.dmaBusValue := (congrArg State.dmaBusValue (internal_only s k)).trans rfl
@[simp] theorem internal_timers (s : State) (k : Nat) : (s.internal k).timers = s.timers := (congrArg State.timers (internal_only s k)).trans rfl
@[simp] theorem internal_clock (s : State) (k : Nat) : (s.internal k).clock = s.clock := (congrArg State.clock (internal_only s k)).trans rfl
@[simp] theorem internal_budgetEnd (s : State) (k : Nat) : (s.internal k).budgetEnd = s.budgetEnd := (congrArg State.budgetEnd (internal_only s k)).trans rfl
@[simp] theorem internal_carry (s : State) (k : Nat) : (s.internal k).carry = s.carry := (congrArg State.carry (internal_only s k)).trans rfl
@[simp] theorem internal_busLast (s : State) (k : Nat) : (s.internal k).busLast = s.busLast := (congrArg State.busLast (internal_only s k)).trans rfl
@[simp] theorem internal_mem (s : State) (k : Nat) : (s.internal k).mem = s.mem := (congrArg State.mem (internal_only s k)).trans rfl
@[simp] theorem internal_env (s : State) (k : Nat) : (s.internal k).env = s.env := (congrArg State.env (internal_only s k)).trans rfl
@[simp] theorem internal_out (s : State) (k : Nat) : (s.internal k).out = s.out := (congrArg State.out (internal_only s k)).trans rfl
@[simp] theorem internal_freeCount (s : State) (k : Nat) : (s.internal k).freeCount = s.freeCount := (congrArg State.freeCount (internal_only s k)).trans rfl
@[simp] theorem internal_userLdm (s : State) (k : Nat) : (s.internal k).userLdm = s.userLdm := (congrArg State.userLdm (internal_only s k)).trans rfl

theorem restoreCpsr_only (s : State) : s.restoreCpsr = { s with cpsr := (s.restoreCpsr).cpsr } := by
  unfold State.restoreCpsr; split <;> rfl
@[simp] theorem restoreCpsr_regs (s : State) : (s.restoreCpsr).regs = s.regs := (congrArg State.regs (restoreCpsr_only s)).trans rfl
@[simp] theorem restoreCpsr_spsr (s : State) : (s.restoreCpsr).spsr = s.spsr := (congrArg State.spsr (restoreCpsr_only s)).trans rfl
@[simp] theorem restoreCpsr_pc (s : State) : (s.restoreCpsr).pc = s.pc := (congrArg State.pc (restoreCpsr_only s)).trans rfl
@[simp] theorem restoreCpsr_slotExec (s : State) : (s.restoreCpsr).slotExec = s.slotExec := (congrArg State.slotExec (restoreCpsr_only s)).trans rfl
@[simp] theorem restoreCpsr_slotDecode (s : State) : (s.restoreCpsr).slotDecode = s.slotDecode := (congrArg State.slotDecode (restoreCpsr_only s)).trans rfl
@[simp] theorem restoreCpsr_bubble (s : State) : (s.restoreCpsr).bubble = s.bubble := (congrArg State.bubble (restoreCpsr_only s)).trans rfl
@[simp] theorem restoreCpsr_lastFetch (s : State) : (s.restoreCpsr).lastFetch = s.lastFetch := (congrArg State.lastFetch (restoreCpsr_only s)).trans rfl
@[simp] theorem restoreCpsr_halted (s : State) : (s.restoreCpsr).halted = s.halted := (congrArg State.halted (restoreCpsr_only s)).trans rfl
@[simp] theorem restoreCpsr_stopped (s : State) : (s.restoreCpsr).stopped = s.stopped := (congrArg State.stopped (restoreCpsr_only s)).trans rfl
@[simp] theorem restoreCpsr_iterationEnd (s : State) : (s.restoreCpsr).iterationEnd = s.iterationEnd := (congrArg State.iterationEnd (restoreCpsr_only s)).trans rfl
@[simp] theorem restoreCpsr_irq (s : State) : (s.restoreCpsr).irq = s.irq := (congrArg State.irq (restoreCpsr_only s)).trans rfl
@[simp] theorem restoreCpsr_dma (s : State) : (s.restoreCpsr).dma = s.dma := (congrArg State.dma (restoreCpsr_only s)).trans rfl
@[simp] theorem restoreCpsr_armed (s : State) : (s.restoreCpsr).armed = s.armed := (congrArg State.armed (restoreCpsr_only s)).trans rfl
@[simp] theorem restoreCpsr_dmaBusValue (s : State) : (s.restoreCpsr).dmaBusValue = s.dmaBusValue := (congrArg State.dmaBusValue (restoreCpsr_only s)).trans rfl
@[simp] theorem restoreCpsr_timers (s : State) : (s.restoreCpsr).timers = s.timers := (congrArg State.timers (restoreCpsr_only s)).trans rfl
@[simp] theorem restoreCpsr_clock (s : State) : (s.restoreCpsr).clock = s.clock := (congrArg State.clock (restoreCpsr_only s)).trans rfl
@[simp] theorem restoreCpsr_budgetEnd (s : State) : (s.restoreCpsr).budgetEnd = s.budgetEnd := (congrArg State.budgetEnd (restoreCpsr_only s)).trans rfl
@[simp] theorem restoreCpsr_carry (s : State) : (s.restoreCpsr).carry = s.carry := (congrArg State.carry (restoreCpsr_only s)).trans rfl
@[simp] theorem restoreCpsr_busLast (s : State) : (s.restoreCpsr).busLast = s.busLast := (congrArg State.busLast (restoreCpsr_only s)).trans rfl
@[simp] theorem restoreCpsr_mem (s : State) : (s.restoreCpsr).mem = s.mem := (congrArg State.mem (restoreCpsr_only s)).trans rfl
@[simp] theorem restoreCpsr_env (s : State) : (s.restoreCpsr).env = s.env := (congrArg State.env (restoreCpsr_only s)).trans rfl
@[simp] theorem restoreCpsr_out (s : State) : (s.restoreCpsr).out = s.out := (congrArg State.out (restoreCpsr_only s)).trans rfl
@[simp] theorem restoreCpsr_stepClocks (s : State) : (s.restoreCpsr).stepClocks = s.stepClocks := (congrArg State.stepClocks (restoreCpsr_only s)).trans rfl
@[simp] theorem restoreCpsr_freeCount (s : State) : (s.restoreCpsr).freeCount = s.freeCount := (congrArg State.freeCount (restoreCpsr_only s)).trans rfl
@[simp] theorem restoreCpsr_userLdm (s : State) : (s.restoreCpsr).userLdm = s.userLdm := (congrArg State.userLdm (restoreCpsr_only s)).trans rfl

theorem enterException_only (s : State) (e : Exc) (lr : Word) : s.enterException e lr = { s with regs := (s.enterException e lr).regs, cpsr := (s.enterException e lr).cpsr, spsr := (s.enterException e lr).spsr, pc := (s.enterException e lr).pc, bubble := (s.enterException e lr).bubble, busLast := (s.enterException e lr).busLast } := by
  unfold State.enterException State.setReg State.setRegIn; dsimp only; split <;> rfl
@[simp] theorem enterException_slotExec (s : State) (e : Exc) (lr : Word) : (s.enterException e lr).slotExec = s.slotExec := (congrArg State.slotExec (enterException_only s e lr)).trans rfl
@[simp] theorem enterException_slotDecode (s : State) (e : Exc) (lr : Word) : (s.enterException e lr).slotDecode = s.slotDecode := (congrArg State.slotDecode (enterException_only s e lr)).trans rfl
@[simp] theorem enterException_lastFetch (s : State) (e : Exc) (lr : Word) : (s.enterException e lr).lastFetch = s.lastFetch := (congrArg State.lastFetch (enterException_only s e lr)).trans rfl
@[simp] theorem enterException_halted (s : State) (e : Exc) (lr : Word) : (s.enterException e lr).halted = s.halted := (congrArg State.halted (enterException_only s e lr)).trans rfl
@[simp] theorem enterException_stopped (s : State) (e : Exc) (lr : Word) : (s.enterException e lr).stopped = s.stopped := (congrArg State.stopped (enterException_only s e lr)).trans rfl
@[simp] theorem enterException_iterationEnd (s : State) (e : Exc) (lr : Word) : (s.enterException e lr).iterationEnd = s.iterationEnd := (congrArg State.iterationEnd (enterException_only s e lr)).trans rfl
@[simp] theorem enterException_irq (s : State) (e : Exc) (lr : Word) : (s.enterException e lr).irq = s.irq := (congrArg State.irq (enterException_only s e lr)).trans rfl
@[simp] theorem enterException_dma (s : State) (e : Exc) (lr : Word) : (s.enterException e lr).dma = s.dma := (congrArg State.dma (enterException_only s e lr)).trans rfl
@[simp] theorem enterException_armed (s : State) (e : Exc) (lr : Word) : (s.enterException e lr).armed = s.armed := (congrArg State.armed (enterException_only s e lr)).trans rfl
@[simp] theorem enterException_dmaBusValue (s : State) (e : Exc) (lr : Word) : (s.enterException e lr).dmaBusValue = s.dmaBusValue := (congrArg State.dmaBusValue (enterException_only s e lr)).trans rfl
@[simp] theorem enterException_timers (s : State) (e : Exc) (lr : Word) : (s.enterException e lr).timers = s.timers := (congrArg State.timers (enterException_only s e lr)).trans rfl
@[simp] theorem enterException_clock (s : State) (e : Exc) (lr : Word) : (s.enterException e lr).clock = s.clock := (congrArg State.clock (enterException_only s e lr)).trans rfl
@[simp] theorem enterException_budgetEnd (s : State) (e : Exc) (lr : Word) : (s.enterException e lr).budgetEnd = s.budgetEnd := (congrArg State.budgetEnd (enterException_only s e lr)).trans rfl
@[simp] theorem enterException_carry (s : State) (e : Exc) (lr : Word) : (s.enterException e lr).carry = s.carry := (congrArg State.carry (enterException_only s e lr)).trans rfl
@[simp] theorem enterException_mem (s : State) (e : Exc) (lr : Word) : (s.enterException e lr).mem = s.mem := (congrArg State.mem (enterException_only s e lr)).trans rfl
@[simp] theorem enterException_env (s : State) (e : Exc) (lr : Word) : (s.enterException e lr).env = s.env := (congrArg State.env (enterException_only s e lr)).trans rfl
@[simp] theorem enterException_out (s : State) (e : Exc) (lr : Word) : (s.enterException e lr).out = s.out := (congrArg State.out (enterException_only s e lr)).trans rfl
@[simp] theorem enterException_stepClocks (s : State) (e : Exc) (lr : Word) : (s.enterException e lr).stepClocks = s.stepClocks := (congrArg State.stepClocks (enterException_only s e lr)).trans rfl
@[simp] theorem enterException_freeCount (s : State) (e : Exc) (lr : Word) : (s.enterException e lr).freeCount = s.freeCount := (congrArg State.freeCount (enterException_only s e lr)).trans rfl
@[simp] theorem enterException_userLdm (s : State) (e : Exc) (lr : Word) : (s.enterException e lr).userLdm = s.userLdm := (congrArg State.userLdm (enterException_only s e lr)).trans rfl

theorem requestLine_only (s : State) (mask : BitVec 14) : s.requestLine mask = { s with irq := (s.requestLine mask).irq } := rfl
@[simp] theorem requestLine_regs (s : State) (mask : BitVec 14) : (s.requestLine mask).regs = s.regs := (congrArg State.regs (requestLine_only s mask)).trans rfl
@[simp] theorem requestLine_cpsr (s : State) (mask : BitVec 14) : (s.requestLine mask).cpsr = s.cpsr := (congrArg State.cpsr (requestLine_only s mask)).trans rfl
@[simp] theorem requestLine_spsr (s : State) (mask : BitVec 14) : (s.requestLine mask).spsr = s.spsr := (congrArg State.spsr (requestLine_only s mask)).trans rfl
@[simp] theorem requestLine_pc (s : State) (mask : BitVec 14) : (s.requestLine mask).pc = s.pc := (congrArg State.pc (requestLine_only s mask)).trans rfl
@[simp] theorem requestLine_slotExec (s : State) (mask : BitVec 14) : (s.requestLine mask).slotExec = s.slotExec := (congrArg State.slotExec (requestLine_only s mask)).trans rfl
@[simp] theorem requestLine_slotDecode (s : State) (mask : BitVec 14) : (s.requestLine mask).slotDecode = s.slotDecode := (congrArg State.slotDecode (requestLine_only s mask)).trans rfl
@[simp] theorem requestLine_bubble (s : State) (mask : BitVec 14) : (s.requestLine mask).bubble = s.bubble := (congrArg State.bubble (requestLine_only s mask)).trans rfl
@[simp] theorem requestLine_lastFetch (s : State) (mask : BitVec 14) : (s.requestLine mask).lastFetch = s.lastFetch := (congrArg State.lastFetch (requestLine_only s mask)).trans rfl
@[simp] theorem requestLine_halted (s : State) (mask : BitVec 14) : (s.requestLine mask).halted = s.halted := (congrArg State.halted (requestLine_only s mask)).trans rfl
@[simp] theorem requestLine_stopped (s : State) (mask : BitVec 14) : (s.requestLine mask).stopped = s.stopped := (congrArg State.stopped (requestLine_only s mask)).trans rfl
@[simp] theorem requestLine_iterationEnd (s : State) (mask : BitVec 14) : (s.requestLine mask).iterationEnd = s.iterationEnd := (congrArg State.iterationEnd (requestLine_only s mask)).trans rfl
@[simp] theorem requestLine_dma (s : State) (mask : BitVec 14) : (s.requestLine mask).dma = s.dma := (congrArg State.dma (requestLine_only s mask)).trans rfl
@[simp] theorem requestLine_armed (s : State) (mask : BitVec 14) : (s.requestLine mask).armed = s.armed := (congrArg State.armed (requestLine_only s mask)).trans rfl
@[simp] theorem requestLine_dmaBusValue (s : State) (mask : BitVec 14) : (s.requestLine mask).dmaBusValue = s.dmaBusValue := (congrArg State.dmaBusValue (requestLine_only s mask)).trans rfl
@[simp] theorem requestLine_timers (s : State) (mask : BitVec 14) : (s.requestLine mask).timers = s.timers := (congrArg State.timers (requestLine_only s mask)).trans rfl
@[simp] theorem requestLine_clock (s : State) (mask : BitVec 14) : (s.requestLine mask).clock = s.clock := (congrArg State.clock (requestLine_only s mask)).trans rfl
@[simp] theorem requestLine_budgetEnd (s : State) (mask : BitVec 14) : (s.requestLine mask).budgetEnd = s.budgetEnd := (congrArg State.budgetEnd (requestLine_only s mask)).trans rfl
@[simp] theorem requestLine_carry (s : State) (mask : BitVec 14) : (s.requestLine mask).carry = s.carry := (congrArg State.carry (requestLine_only s mask)).trans rfl
@[simp] theorem requestLine_busLast (s : State) (mask : BitVec 14) : (s.requestLine mask).busLast = s.busLast := (congrArg State.busLast (requestLine_only s mask)).trans rfl
@[simp] theorem requestLine_mem (s : State) (mask : BitVec 14) : (s.requestLine mask).mem = s.mem := (congrArg State.mem (requestLine_only s mask)).trans rfl
@[simp] theorem requestLine_env (s : State) (mask : BitVec 14) : (s.requestLine mask).env = s.env := (congrArg State.env (requestLine_only s mask)).trans rfl
@[simp] theorem requestLine_out (s : State) (mask : BitVec 14) : (s.requestLine mask).out = s.out := (congrArg State.out (requestLine_only s mask)).trans rfl
@[simp] theorem requestLine_stepClocks (s : State) (mask : BitVec 14) : (s.requestLine mask).stepClocks = s.stepClocks := (congrArg State.stepClocks (requestLine_only s mask)).trans rfl
@[simp] theorem requestLine_freeCount (s : State) (mask : BitVec 14) : (s.requestLine mask).freeCount = s.freeCount := (congrArg State.freeCount (requestLine_only s mask)).trans rfl
@[simp] theorem requestLine_userLdm (s : State) (mask : BitVec 14) : (s.requestLine mask).userLdm = s.userLdm := (congrArg State.userLdm (requestLine_only s mask)).trans rfl

theorem setDma_only (s : State) (n : Fin 4) (c : DmaChannel) : s.setDma n c = { s with dma := (s.setDma n c).dma } := rfl
@[simp] theorem setDma_regs (s : State) (n : Fin 4) (c : DmaChannel) : (s.setDma n c).regs = s.regs := (congrArg State.regs (setDma_only s n c)).trans rfl
@[simp] theorem setDma_cpsr (s : State) (n : Fin 4) (c : DmaChannel) : (s.setDma n c).cpsr = s.cpsr := (congrArg State.cpsr (setDma_only s n c)).trans rfl
@[simp] theorem setDma_spsr (s : State) (n : Fin 4) (c : DmaChannel) : (s.setDma n c).spsr = s.spsr := (congrArg State.spsr (setDma_only s n c)).trans rfl
@[simp] theorem setDma_pc (s : State) (n : Fin 4) (c : DmaChannel) : (s.setDma n c).pc = s.pc := (congrArg State.pc (setDma_only s n c)).trans rfl
@[simp] theorem setDma_slotExec (s : State) (n : Fin 4) (c : DmaChannel) : (s.setDma n c).slotExec = s.slotExec := (congrArg State.slotExec (setDma_only s n c)).trans rfl
@[simp] theorem setDma_slotDecode (s : State) (n : Fin 4) (c : DmaChannel) : (s.setDma n c).slotDecode = s.slotDecode := (congrArg State.slotDecode (setDma_only s n c)).trans rfl
@[simp] theorem setDma_bubble (s : State) (n : Fin 4) (c : DmaChannel) : (s.setDma n c).bubble = s.bubble := (congrArg State.bubble (setDma_only s n c)).trans rfl
@[simp] theorem setDma_lastFetch (s : State) (n : Fin 4) (c : DmaChannel) : (s.setDma n c).lastFetch = s.lastFetch := (congrArg State.lastFetch (setDma_only s n c)).trans rfl
@[simp] theorem setDma_halted (s : State) (n : Fin 4) (c : DmaChannel) : (s.setDma n c).halted = s.halted := (congrArg State.halted (setDma_only s n c)).trans rfl
@[simp] theorem setDma_stopped (s : State) (n : Fin 4) (c : DmaChannel) : (s.setDma n c).stopped = s.stopped := (congrArg State.stopped (setDma_only s n c)).trans rfl
@[simp] theorem setDma_iterationEnd (s : State) (n : Fin 4) (c : DmaChannel) : (s.setDma n c).iterationEnd = s.iterationEnd := (congrArg State.iterationEnd (setDma_only s n c)).trans rfl
@[simp] theorem setDma_irq (s : State) (n : Fin 4) (c : DmaChannel) : (s.setDma n c).irq = s.irq := (congrArg State.irq (setDma_only s n c)).trans rfl
@[simp] theorem setDma_armed (s : State) (n : Fin 4) (c : DmaChannel) : (s.setDma n c).armed = s.armed := (congrArg State.armed (setDma_only s n c)).trans rfl
@[simp] theorem setDma_dmaBusValue (s : State) (n : Fin 4) (c : DmaChannel) : (s.setDma n c).dmaBusValue = s.dmaBusValue := (congrArg State.dmaBusValue (setDma_only s n c)).trans rfl
@[simp] theorem setDma_timers (s : State) (n : Fin 4) (c : DmaChannel) : (s.setDma n c).timers = s.timers := (congrArg State.timers (setDma_only s n c)).trans rfl
@[simp] theorem setDma_clock (s : State) (n : Fin 4) (c : DmaChannel) : (s.setDma n c).clock = s.clock := (congrArg State.clock (setDma_only s n c)).trans rfl
@[simp] theorem setDma_budgetEnd (s : State) (n : Fin 4) (c : DmaChannel) : (s.setDma n c).budgetEnd = s.budgetEnd := (congrArg State.budgetEnd (setDma_only s n c)).trans rfl
@[simp] theorem setDma_carry (s : State) (n : Fin 4) (c : DmaChannel) : (s.setDma n c).carry = s.carry := (congrArg State.carry (setDma_only s n c)).trans rfl
@[simp] theorem setDma_busLast (s : State) (n : Fin 4) (c : DmaChannel) : (s.setDma n c).busLast = s.busLast := (congrArg State.busLast (setDma_only s n c)).trans rfl
@[simp] theorem setDma_mem (s : State) (n : Fin 4) (c : DmaChannel) : (s.setDma n c).mem = s.mem := (congrArg State.mem (setDma_only s n c)).trans rfl
@[simp] theorem setDma_env (s : State) (n : Fin 4) (c : DmaChannel) : (s.setDma n c).env = s.env := (congrArg State.env (setDma_only s n c)).trans rfl
@[simp] theorem setDma_out (s : State) (n : Fin 4) (c : DmaChannel) : (s.setDma n c).out = s.out := (congrArg State.out (setDma_only s n c)).trans rfl
@[simp] theorem setDma_stepClocks (s : State) (n : Fin 4) (c : DmaChannel) : (s.setDma n c).stepClocks = s.stepClocks := (congrArg State.stepClocks (setDma_only s n c)).trans rfl
@[simp] theorem setDma_freeCount (s : State) (n : Fin 4) (c : DmaChannel) : (s.setDma n c).freeCount = s.freeCount := (congrArg State.freeCount (setDma_only s n c)).trans rfl
@[simp] theorem setDma_userLdm (s : State) (n : Fin 4) (c : DmaChannel) : (s.setDma n c).userLdm = s.userLdm := (congrArg State.userLdm (setDma_only s n c)).trans rfl

theorem arbitrate_only (s : State) : s.arbitrate = { s with armed := (s.arbitrate).armed, busLast := (s.arbitrate).busLast } := rfl
@[simp] theorem arbitrate_regs (s : State) : (s.arbitrate).regs = s.regs := (congrArg State.regs (arbitrate_only s)).trans rfl
@[simp] theorem arbitrate_cpsr (s : State) : (s.arbitrate).cpsr = s.cpsr := (congrArg State.cpsr (arbitrate_only s)).trans rfl
@[simp] theorem arbitrate_spsr (s : State) : (s.arbitrate).spsr = s.spsr := (congrArg State.spsr (arbitrate_only s)).trans rfl
@[simp] theorem arbitrate_pc (s : State) : (s.arbitrate).pc = s.pc := (congrArg State.pc (arbitrate_only s)).trans rfl
@[simp] theorem arbitrate_slotExec (s : State) : (s.arbitrate).slotExec = s.slotExec := (congrArg State.slotExec (arbitrate_only s)).trans rfl
@[simp] theorem arbitrate_slotDecode (s : State) : (s.arbitrate).slotDecode = s.slotDecode := (congrArg State.slotDecode (arbitrate_only s)).trans rfl
@[simp] theorem arbitrate_bubble (s : State) : (s.arbitrate).bubble = s.bubble := (congrArg State.bubble (arbitrate_only s)).trans rfl
@[simp] theorem arbitrate_lastFetch (s : State) : (s.arbitrate).lastFetch = s.lastFetch := (congrArg State.lastFetch (arbitrate_only s)).trans rfl
@[simp] theorem arbitrate_halted (s : State) : (s.arbitrate).halted = s.halted := (congrArg State.halted (arbitrate_only s)).trans rfl
@[simp] theorem arbitrate_stopped (s : State) : (s.arbitrate).stopped = s.stopped := (congrArg State.stopped (arbitrate_only s)).trans rfl
@[simp] theorem arbitrate_iterationEnd (s : State) : (s.arbitrate).iterationEnd = s.iterationEnd := (congrArg State.iterationEnd (arbitrate_only s)).trans rfl
@[simp] theorem arbitrate_irq (s : State) : (s.arbitrate).irq = s.irq := (congrArg State.irq (arbitrate_only s)).trans rfl
@[simp] theorem arbitrate_dma (s : State) : (s.arbitrate).dma = s.dma := (congrArg State.dma (arbitrate_only s)).trans rfl
@[simp] theorem arbitrate_dmaBusValue (s : State) : (s.arbitrate).dmaBusValue = s.dmaBusValue := (congrArg State.dmaBusValue (arbitrate_only s)).trans rfl
@[simp] theorem arbitrate_timers (s : State) : (s.arbitrate).timers = s.timers := (congrArg State.timers (arbitrate_only s)).trans rfl
@[simp] theorem arbitrate_clock (s : State) : (s.arbitrate).clock = s.clock := (congrArg State.clock (arbitrate_only s)).trans rfl
@[simp] theorem arbitrate_budgetEnd (s : State) : (s.arbitrate).budgetEnd = s.budgetEnd := (congrArg State.budgetEnd (arbitrate_only s)).trans rfl
@[simp] theorem arbitrate_carry (s : State) : (s.arbitrate).carry = s.carry := (congrArg State.carry (arbitrate_only s)).trans rfl
@[simp] theorem arbitrate_mem (s : State) : (s.arbitrate).mem = s.mem := (congrArg State.mem (arbitrate_only s)).trans rfl
@[simp] theorem arbitrate_env (s : State) : (s.arbitrate).env = s.env := (congrArg State.env (arbitrate_only s)).trans rfl
@[simp] theorem arbitrate_out (s : State) : (s.arbitrate).out = s.out := (congrArg State.out (arbitrate_only s)).trans rfl
@[simp] theorem arbitrate_stepClocks (s : State) : (s.arbitrate).stepClocks = s.stepClocks := (congrArg State.stepClocks (arbitrate_only s)).trans rfl
@[simp] theorem arbitrate_freeCount (s : State) : (s.arbitrate).freeCount = s.freeCount := (congrArg State.freeCount (arbitrate_only s)).trans rfl
@[simp] theorem arbitrate_userLdm (s : State) : (s.arbitrate).userLdm = s.userLdm := (congrArg State.userLdm (arbitrate_only s)).trans rfl

theorem requestTrigger_only (s : State) (n : Fin 4) (t : BitVec 2) : s.requestTrigger n t = { s with dma := (s.requestTrigger n t).dma, armed := (s.requestTrigger n t).armed, busLast := (s.requestTrigger n t).busLast } := rfl
@[simp] theorem requestTrigger_regs (s : State) (n : Fin 4) (t : BitVec 2) : (s.requestTrigger n t).regs = s.regs := (congrArg State.regs (requestTrigger_only s n t)).trans rfl
@[simp] theorem requestTrigger_cpsr (s : State) (n : Fin 4) (t : BitVec 2) : (s.requestTrigger n t).cpsr = s.cpsr := (congrArg State.cpsr (requestTrigger_only s n t)).trans rfl
@[simp] theorem requestTrigger_spsr (s : State) (n : Fin 4) (t : BitVec 2) : (s.requestTrigger n t).spsr = s.spsr := (congrArg State.spsr (requestTrigger_only s n t)).trans rfl
@[simp] theorem requestTrigger_pc (s : State) (n : Fin 4) (t : BitVec 2) : (s.requestTrigger n t).pc = s.pc := (congrArg State.pc (requestTrigger_only s n t)).trans rfl
@[simp] theorem requestTrigger_slotExec (s : State) (n : Fin 4) (t : BitVec 2) : (s.requestTrigger n t).slotExec = s.slotExec := (congrArg State.slotExec (requestTrigger_only s n t)).trans rfl
@[simp] theorem requestTrigger_slotDecode (s : State) (n : Fin 4) (t : BitVec 2) : (s.requestTrigger n t).slotDecode = s.slotDecode := (congrArg State.slotDecode (requestTrigger_only s n t)).trans rfl
@[simp] theorem requestTrigger_bubble (s : State) (n : Fin 4) (t : BitVec 2) : (s.requestTrigger n t).bubble = s.bubble := (congrArg State.bubble (requestTrigger_only s n t)).trans rfl
@[simp] theorem requestTrigger_lastFetch (s : State) (n : Fin 4) (t : BitVec 2) : (s.requestTrigger n t).lastFetch = s.lastFetch := (congrArg State.lastFetch (requestTrigger_only s n t)).trans rfl
@[simp] theorem requestTrigger_halted (s : State) (n : Fin 4) (t : BitVec 2) : (s.requestTrigger n t).halted = s.halted := (congrArg State.halted (requestTrigger_only s n t)).trans rfl
@[simp] theorem requestTrigger_stopped (s : State) (n : Fin 4) (t : BitVec 2) : (s.requestTrigger n t).stopped = s.stopped := (congrArg State.stopped (requestTrigger_only s n t)).trans rfl
@[simp] theorem requestTrigger_iterationEnd (s : State) (n : Fin 4) (t : BitVec 2) : (s.requestTrigger n t).iterationEnd = s.iterationEnd := (congrArg State.iterationEnd (requestTrigger_only s n t)).trans rfl
@[simp] theorem requestTrigger_irq (s : State) (n : Fin 4) (t : BitVec 2) : (s.requestTrigger n t).irq = s.irq := (congrArg State.irq (requestTrigger_only s n t)).trans rfl
@[simp] theorem requestTrigger_dmaBusValue (s : State) (n : Fin 4) (t : BitVec 2) : (s.requestTrigger n t).dmaBusValue = s.dmaBusValue := (congrArg State.dmaBusValue (requestTrigger_only s n t)).trans rfl
@[simp] theorem requestTrigger_timers (s : State) (n : Fin 4) (t : BitVec 2) : (s.requestTrigger n t).timers = s.timers := (congrArg State.timers (requestTrigger_only s n t)).trans rfl
@[simp] theorem requestTrigger_clock (s : State) (n : Fin 4) (t : BitVec 2) : (s.requestTrigger n t).clock = s.clock := (congrArg State.clock (requestTrigger_only s n t)).trans rfl
@[simp] theorem requestTrigger_budgetEnd (s : State) (n : Fin 4) (t : BitVec 2) : (s.requestTrigger n t).budgetEnd = s.budgetEnd := (congrArg State.budgetEnd (requestTrigger_only s n t)).trans rfl
@[simp] theorem requestTrigger_carry (s : State) (n : Fin 4) (t : BitVec 2) : (s.requestTrigger n t).carry = s.carry := (congrArg State.carry (requestTrigger_only s n t)).trans rfl
@[simp] theorem requestTrigger_mem (s : State) (n : Fin 4) (t : BitVec 2) : (s.requestTrigger n t).mem = s.mem := (congrArg State.mem (requestTrigger_only s n t)).trans rfl
@[simp] theorem requestTrigger_env (s : State) (n : Fin 4) (t : BitVec 2) : (s.requestTrigger n t).env = s.env := (congrArg State.env (requestTrigger_only s n t)).trans rfl
@[simp] theorem requestTrigger_out (s : State) (n : Fin 4) (t : BitVec 2) : (s.requestTrigger n t).out = s.out := (congrArg State.out (requestTrigger_only s n t)).trans rfl
@[simp] theorem requestTrigger_stepClocks (s : State) (n : Fin 4) (t : BitVec 2) : (s.requestTrigger n t).stepClocks = s.stepClocks := (congrArg State.stepClocks (requestTrigger_only s n t)).trans rfl
@[simp] theorem requestTrigger_freeCount (s : State) (n : Fin 4) (t : BitVec 2) : (s.requestTrigger n t).freeCount = s.freeCount := (congrArg State.freeCount (requestTrigger_only s n t)).trans rfl
@[simp] theorem requestTrigger_userLdm (s : State) (n : Fin 4) (t : BitVec 2) : (s.requestTrigger n t).userLdm = s.userLdm := (congrArg State.userLdm (requestTrigger_only s n t)).trans rfl

theorem writeDmaCtl_only (s : State) (n : Fin 4) (v : Half) : s.writeDmaCtl n v = { s with dma := (s.writeDmaCtl n v).dma, armed := (s.writeDmaCtl n v).armed, busLast := (s.writeDmaCtl n v).busLast } := by
  unfold State.writeDmaCtl; dsimp only; split <;> rfl
@[simp] theorem writeDmaCtl_regs (s : State) (n : Fin 4) (v : Half) : (s.writeDmaCtl n v).regs = s.regs := (congrArg State.regs (writeDmaCtl_only s n v)).trans rfl
@[simp] theorem writeDmaCtl_cpsr (s : State) (n : Fin 4) (v : Half) : (s.writeDmaCtl n v).cpsr = s.cpsr := (congrArg State.cpsr (writeDmaCtl_only s n v)).trans rfl
@[simp] theorem writeDmaCtl_spsr (s : State) (n : Fin 4) (v : Half) : (s.writeDmaCtl n v).spsr = s.spsr := (congrArg State.spsr (writeDmaCtl_only s n v)).trans rfl
@[simp] theorem writeDmaCtl_pc (s : State) (n : Fin 4) (v : Half) : (s.writeDmaCtl n v).pc = s.pc := (congrArg State.pc (writeDmaCtl_only s n v)).trans rfl
@[simp] theorem writeDmaCtl_slotExec (s : State) (n : Fin 4) (v : Half) : (s.writeDmaCtl n v).slotExec = s.slotExec := (congrArg State.slotExec (writeDmaCtl_only s n v)).trans rfl
@[simp] theorem writeDmaCtl_slotDecode (s : State) (n : Fin 4) (v : Half) : (s.writeDmaCtl n v).slotDecode = s.slotDecode := (congrArg State.slotDecode (writeDmaCtl_only s n v)).trans rfl
@[simp] theorem writeDmaCtl_bubble (s : State) (n : Fin 4) (v : Half) : (s.writeDmaCtl n v).bubble = s.bubble := (congrArg State.bubble (writeDmaCtl_only s n v)).trans rfl
@[simp] theorem writeDmaCtl_lastFetch (s : State) (n : Fin 4) (v : Half) : (s.writeDmaCtl n v).lastFetch = s.lastFetch := (congrArg State.lastFetch (writeDmaCtl_only s n v)).trans rfl
@[simp] theorem writeDmaCtl_halted (s : State) (n : Fin 4) (v : Half) : (s.writeDmaCtl n v).halted = s.halted := (congrArg State.halted (writeDmaCtl_only s n v)).trans rfl
@[simp] theorem writeDmaCtl_stopped (s : State) (n : Fin 4) (v : Half) : (s.writeDmaCtl n v).stopped = s.stopped := (congrArg State.stopped (writeDmaCtl_only s n v)).trans rfl
@[simp] theorem writeDmaCtl_iterationEnd (s : State) (n : Fin 4) (v : Half) : (s.writeDmaCtl n v).iterationEnd = s.iterationEnd := (congrArg State.iterationEnd (writeDmaCtl_only s n v)).trans rfl
@[simp] theorem writeDmaCtl_irq (s : State) (n : Fin 4) (v : Half) : (s.writeDmaCtl n v).irq = s.irq := (congrArg State.irq (writeDmaCtl_only s n v)).trans rfl
@[simp] theorem writeDmaCtl_dmaBusValue (s : State) (n : Fin 4) (v : Half) : (s.writeDmaCtl n v).dmaBusValue = s.dmaBusValue := (congrArg State.dmaBusValue (writeDmaCtl_only s n v)).trans rfl
@[simp] theorem writeDmaCtl_timers (s : State) (n : Fin 4) (v : Half) : (s.writeDmaCtl n v).timers = s.timers := (congrArg State.timers (writeDmaCtl_only s n v)).trans rfl
@[simp] theorem writeDmaCtl_clock (s : State) (n : Fin 4) (v : Half) : (s.writeDmaCtl n v).clock = s.clock := (congrArg State.clock (writeDmaCtl_only s n v)).trans rfl
@[simp] theorem writeDmaCtl_budgetEnd (s : State) (n : Fin 4) (v : Half) : (s.writeDmaCtl n v).budgetEnd = s.budgetEnd := (congrArg State.budgetEnd (writeDmaCtl_only s n v)).trans rfl
@[simp] theorem writeDmaCtl_carry (s : State) (n : Fin 4) (v : Half) : (s.writeDmaCtl n v).carry = s.carry := (congrArg State.carry (writeDmaCtl_only s n v)).trans rfl
@[simp] theorem writeDmaCtl_mem (s : State) (n : Fin 4) (v : Half) : (s.writeDmaCtl n v).mem = s.mem := (congrArg State.mem (writeDmaCtl_only s n v)).trans rfl
@[simp] theorem writeDmaCtl_env (s : State) (n : Fin 4) (v : Half) : (s.writeDmaCtl n v).env = s.env := (congrArg State.env (writeDmaCtl_only s n v)).trans rfl
@[simp] theorem writeDmaCtl_out (s : State) (n : Fin 4) (v : Half) : (s.writeDmaCtl n v).out = s.out := (congrArg State.out (writeDmaCtl_only s n v)).trans rfl
@[simp] theorem writeDmaCtl_stepClocks (s : State) (n : Fin 4) (v : Half) : (s.writeDmaCtl n v).stepClocks = s.stepClocks := (congrArg State.stepClocks (writeDmaCtl_only s n v)).trans rfl
@[simp] theorem writeDmaCtl_freeCount (s : State) (n : Fin 4) (v : Half) : (s.writeDmaCtl n v).freeCount = s.freeCount := (congrArg State.freeCount (writeDmaCtl_only s n v)).trans rfl
@[simp] theorem writeDmaCtl_userLdm (s : State) (n : Fin 4) (v : Half) : (s.writeDmaCtl n v).userLdm = s.userLdm := (congrArg State.userLdm (writeDmaCtl_only s n v)).trans rfl

theorem finalizeDma_only (s : State) (n : Fin 4) (b : Bool) : s.finalizeDma n b = { s with dma := (s.finalizeDma n b).dma, armed := (s.finalizeDma n b).armed, busLast := (s.finalizeDma n b).busLast, irq := (s.finalizeDma n b).irq } := by
  unfold State.finalizeDma; dsimp only; split <;> rfl
@[simp] theorem finalizeDma_regs (s : State) (n : Fin 4) (b : Bool) : (s.finalizeDma n b).regs = s.regs := (congrArg State.regs (finalizeDma_only s n b)).trans rfl
@[simp] theorem finalizeDma_cpsr (s : State) (n : Fin 4) (b : Bool) : (s.finalizeDma n b).cpsr = s.cpsr := (congrArg State.cpsr (finalizeDma_only s n b)).trans rfl
@[simp] theorem finalizeDma_spsr (s : State) (n : Fin 4) (b : Bool) : (s.finalizeDma n b).spsr = s.spsr := (congrArg State.spsr (finalizeDma_only s n b)).trans rfl
@[simp] theorem finalizeDma_pc (s : State) (n : Fin 4) (b : Bool) : (s.finalizeDma n b).pc = s.pc := (congrArg State.pc (finalizeDma_only s n b)).trans rfl
@[simp] theorem finalizeDma_slotExec (s : State) (n : Fin 4) (b : Bool) : (s.finalizeDma n b).slotExec = s.slotExec := (congrArg State.slotExec (finalizeDma_only s n b)).trans rfl
@[simp] theorem finalizeDma_slotDecode (s : State) (n : Fin 4) (b : Bool) : (s.finalizeDma n b).slotDecode = s.slotDecode := (congrArg State.slotDecode (finalizeDma_only s n b)).trans rfl
@[simp] theorem finalizeDma_bubble (s : State) (n : Fin 4) (b : Bool) : (s.finalizeDma n b).bubble = s.bubble := (congrArg State.bubble (finalizeDma_only s n b)).trans rfl
@[simp] theorem finalizeDma_lastFetch (s : State) (n : Fin 4) (b : Bool) : (s.finalizeDma n b).lastFetch = s.lastFetch := (congrArg State.lastFetch (finalizeDma_only s n b)).trans rfl
@[simp] theorem finalizeDma_halted (s : State) (n : Fin 4) (b : Bool) : (s.finalizeDma n b).halted = s.halted := (congrArg State.halted (finalizeDma_only s n b)).trans rfl
@[simp] theorem finalizeDma_stopped (s : State) (n : Fin 4) (b : Bool) : (s.finalizeDma n b).stopped = s.stopped := (congrArg State.stopped (finalizeDma_only s n b)).trans rfl
@[simp] theorem finalizeDma_iterationEnd (s : State) (n : Fin 4) (b : Bool) : (s.finalizeDma n b).iterationEnd = s.iterationEnd := (congrArg State.iterationEnd (finalizeDma_only s n b)).trans rfl
@[simp] theorem finalizeDma_dmaBusValue (s : State) (n : Fin 4) (b : Bool) : (s.finalizeDma n b).dmaBusValue = s.dmaBusValue := (congrArg State.dmaBusValue (finalizeDma_only s n b)).trans rfl
@[simp] theorem finalizeDma_timers (s : State) (n : Fin 4) (b : Bool) : (s.finalizeDma n b).timers = s.timers := (congrArg State.timers (finalizeDma_only s n b)).trans rfl
@[simp] theorem finalizeDma_clock (s : State) (n : Fin 4) (b : Bool) : (s.finalizeDma n b).clock = s.clock := (congrArg State.clock (finalizeDma_only s n b)).trans rfl
@[simp] theorem finalizeDma_budgetEnd (s : State) (n : Fin 4) (b : Bool) : (s.finalizeDma n b).budgetEnd = s.budgetEnd := (congrArg State.budgetEnd (finalizeDma_only s n b)).trans rfl
@[simp] theorem finalizeDma_carry (s : State) (n : Fin 4) (b : Bool) : (s.finalizeDma n b).carry = s.carry := (congrArg State.carry (finalizeDma_only s n b)).trans rfl
@[simp] theorem finalizeDma_mem (s : State) (n : Fin 4) (b : Bool) : (s.finalizeDma n b).mem = s.mem := (congrArg State.mem (finalizeDma_only s n b)).trans rfl
@[simp] theorem finalizeDma_env (s : State) (n : Fin 4) (b : Bool) : (s.finalizeDma n b).env = s.env := (congrArg State.env (finalizeDma_only s n b)).trans rfl
@[simp] theorem finalizeDma_out (s : State) (n : Fin 4) (b : Bool) : (s.finalizeDma n b).out = s.out := (congrArg State.out (finalizeDma_only s n b)).trans rfl
@[simp] theorem finalizeDma_stepClocks (s : State) (n : Fin 4) (b : Bool) : (s.finalizeDma n b).stepClocks = s.stepClocks := (congrArg State.stepClocks (finalizeDma_only s n b)).trans rfl
@[simp] theorem finalizeDma_freeCount (s : State) (n : Fin 4) (b : Bool) : (s.finalizeDma n b).freeCount = s.freeCount := (congrArg State.freeCount (finalizeDma_only s n b)).trans rfl
@[simp] theorem finalizeDma_userLdm (s : State) (n : Fin 4) (b : Bool) : (s.finalizeDma n b).userLdm = s.userLdm := (congrArg State.userLdm (finalizeDma_only s n b)).trans rfl

theorem setTimer_only (s : State) (n : Fin 4) (t : Timer) : s.setTimer n t = { s with timers := (s.setTimer n t).timers } := rfl
@[simp] theorem setTimer_regs (s : State) (n : Fin 4) (t : Timer) : (s.setTimer n t).regs = s.regs := (congrArg State.regs (setTimer_only s n t)).trans rfl
@[simp] theorem setTimer_cpsr (s : State) (n : Fin 4) (t : Timer) : (s.setTimer n t).cpsr = s.cpsr := (congrArg State.cpsr (setTimer_only s n t)).trans rfl
@[simp] theorem setTimer_spsr (s : State) (n : Fin 4) (t : Timer) : (s.setTimer n t).spsr = s.spsr := (congrArg State.spsr (setTimer_only s n t)).trans rfl
@[simp] theorem setTimer_pc (s : State) (n : Fin 4) (t : Timer) : (s.setTimer n t).pc = s.pc := (congrArg State.pc (setTimer_only s n t)).trans rfl
@[simp] theorem setTimer_slotExec (s : State) (n : Fin 4) (t : Timer) : (s.setTimer n t).slotExec = s.slotExec := (congrArg State.slotExec (setTimer_only s n t)).trans rfl
@[simp] theorem setTimer_slotDecode (s : State) (n : Fin 4) (t : Timer) : (s.setTimer n t).slotDecode = s.slotDecode := (congrArg State.slotDecode (setTimer_only s n t)).trans rfl
@[simp] theorem setTimer_bubble (s : State) (n : Fin 4) (t : Timer) : (s.setTimer n t).bubble = s.bubble := (congrArg State.bubble (setTimer_only s n t)).trans rfl
@[simp] theorem setTimer_lastFetch (s : State) (n : Fin 4) (t : Timer) : (s.setTimer n t).lastFetch = s.lastFetch := (congrArg State.lastFetch (setTimer_only s n t)).trans rfl
@[simp] theorem setTimer_halted (s : State) (n : Fin 4) (t : Timer) : (s.setTimer n t).halted = s.halted := (congrArg State.halted (setTimer_only s n t)).trans rfl
@[simp] theorem setTimer_stopped (s : State) (n : Fin 4) (t : Timer) : (s.setTimer n t).stopped = s.stopped := (congrArg State.stopped (setTimer_only s n t)).trans rfl
@[simp] theorem setTimer_iterationEnd (s : State) (n : Fin 4) (t : Timer) : (s.setTimer n t).iterationEnd = s.iterationEnd := (congrArg State.iterationEnd (setTimer_only s n t)).trans rfl
@[simp] theorem setTimer_irq (s : State) (n : Fin 4) (t : Timer) : (s.setTimer n t).irq = s.irq := (congrArg State.irq (setTimer_only s n t)).trans rfl
@[simp] theorem setTimer_dma (s : State) (n : Fin 4) (t : Timer) : (s.setTimer n t).dma = s.dma := (congrArg State.dma (setTimer_only s n t)).trans rfl
@[simp] theorem setTimer_armed (s : State) (n : Fin 4) (t : Timer) : (s.setTimer n t).armed = s.armed := (congrArg State.armed (setTimer_only s n t)).trans rfl
@[simp] theorem setTimer_dmaBusValue (s : State) (n : Fin 4) (t : Timer) : (s.setTimer n t).dmaBusValue = s.dmaBusValue := (congrArg State.dmaBusValue (setTimer_only s n t)).trans rfl
@[simp] theorem setTimer_clock (s : State) (n : Fin 4) (t : Timer) : (s.setTimer n t).clock = s.clock := (congrArg State.clock (setTimer_only s n t)).trans rfl
@[simp] theorem setTimer_budgetEnd (s : State) (n : Fin 4) (t : Timer) : (s.setTimer n t).budgetEnd = s.budgetEnd := (congrArg State.budgetEnd (setTimer_only s n t)).trans rfl
@[simp] theorem setTimer_carry (s : State) (n : Fin 4) (t : Timer) : (s.setTimer n t).carry = s.carry := (congrArg State.carry (setTimer_only s n t)).trans rfl
@[simp] theorem setTimer_busLast (s : State) (n : Fin 4) (t : Timer) : (s.setTimer n t).busLast = s.busLast := (congrArg State.busLast (setTimer_only s n t)).trans rfl
@[simp] theorem setTimer_mem (s : State) (n : Fin 4) (t : Timer) : (s.setTimer n t).mem = s.mem := (congrArg State.mem (setTimer_only s n t)).trans rfl
@[simp] theorem setTimer_env (s : State) (n : Fin 4) (t : Timer) : (s.setTimer n t).env = s.env := (congrArg State.env (setTimer_only s n t)).trans rfl
@[simp] theorem setTimer_out (s : State) (n : Fin 4) (t : Timer) : (s.setTimer n t).out = s.out := (congrArg State.out (setTimer_only s n t)).trans rfl
@[simp] theorem setTimer_stepClocks (s : State) (n : Fin 4) (t : Timer) : (s.setTimer n t).stepClocks = s.stepClocks := (congrArg State.stepClocks (setTimer_only s n t)).trans rfl
@[simp] theorem setTimer_freeCount (s : State) (n : Fin 4) (t : Timer) : (s.setTimer n t).freeCount = s.freeCount := (congrArg State.freeCount (setTimer_only s n t)).trans rfl
@[simp] theorem setTimer_userLdm (s : State) (n : Fin 4) (t : Timer) : (s.setTimer n t).userLdm = s.userLdm := (congrArg State.userLdm (setTimer_only s n t)).trans rfl

/-- A state that differs from `s` in the timers, the interrupt requests and the output events only. -/
def TimerOnly (s t : State) : Prop := t = { s with irq := t.irq, timers := t.timers, out := t.out }

theorem TimerOnly.refl (s : State) : TimerOnly s s := rfl

theorem TimerOnly.trans {s t u : State} (h : TimerOnly s t) (k : TimerOnly t u) : TimerOnly s u := by
  unfold TimerOnly at *; rw [k, h]

theorem overflowEffects_timerOnly (s : State) (n : Fin 4) : TimerOnly s (s.overflowEffects n) := by
  unfold TimerOnly State.overflowEffects; dsimp only; split <;> rfl

theorem tickWith_timerOnly (f : State → State) (hf : ∀ s, TimerOnly s (f s)) (n : Fin 4) (s : State) :
    TimerOnly s (tickWith f n s) := by
  unfold tickWith; dsimp only; split
  · exact TimerOnly.trans (TimerOnly.trans (t := s.setTimer n _) rfl (overflowEffects_timerOnly _ n)) (hf _)
  · rfl

theorem cascadeInto_timerOnly (n : Fin 4) (f : State → State) (hf : ∀ s, TimerOnly s (f s)) (s : State) :
    TimerOnly s (cascadeInto n f s) := by
  unfold cascadeInto; split
  · exact hf s
  · rfl

theorem tick3_timerOnly (s : State) : TimerOnly s (tick3 s) := tickWith_timerOnly id TimerOnly.refl 3 s

theorem tick2_timerOnly (s : State) : TimerOnly s (tick2 s) :=
  tickWith_timerOnly _ (cascadeInto_timerOnly 3 _ tick3_timerOnly) 2 s

theorem tick1_timerOnly (s : State) : TimerOnly s (tick1 s) :=
  tickWith_timerOnly _ (cascadeInto_timerOnly 2 _ tick2_timerOnly) 1 s

theorem tick0_timerOnly (s : State) : TimerOnly s (tick0 s) :=
  tickWith_timerOnly _ (cascadeInto_timerOnly 1 _ tick1_timerOnly) 0 s

theorem tick_timerOnly (s : State) (n : Fin 4) : TimerOnly s (s.tick n) := by
  unfold State.tick; split
  · exact tick0_timerOnly s
  · exact tick1_timerOnly s
  · exact tick2_timerOnly s
  · exact tick3_timerOnly s

theorem ticks_timerOnly (s : State) (n : Fin 4) (k : Nat) : TimerOnly s (s.ticks n k) := by
  induction k with
  | zero => exact TimerOnly.refl s
  | succ k ih => exact ih.trans (tick_timerOnly _ n)

theorem timerClocks_timerOnly (s : State) (n : Fin 4) (c : Nat) : TimerOnly s (s.timerClocks n c) := by
  unfold State.timerClocks; dsimp only; split
  · exact TimerOnly.trans (t := s.setTimer n _) rfl (ticks_timerOnly _ n _)
  · exact TimerOnly.refl s

theorem timerAdvance_timerOnly (s : State) (c : Nat) : TimerOnly s (s.timerAdvance c) :=
  (((timerClocks_timerOnly s 0 c).trans (timerClocks_timerOnly _ 1 c)).trans (timerClocks_timerOnly _ 2 c)).trans
    (timerClocks_timerOnly _ 3 c)

theorem timerAdvance_only (s : State) (c : Nat) : s.timerAdvance c = { s with irq := (s.timerAdvance c).irq, timers := (s.timerAdvance c).timers, out := (s.timerAdvance c).out } := timerAdvance_timerOnly s c
@[simp] theorem timerAdvance_regs (s : State) (c : Nat) : (s.timerAdvance c).regs = s.regs := (congrArg State.regs (timerAdvance_only s c)).trans rfl
@[simp] theorem timerAdvance_cpsr (s : State) (c : Nat) : (s.timerAdvance c).cpsr = s.cpsr := (congrArg State.cpsr (timerAdvance_only s c)).trans rfl
@[simp] theorem timerAdvance_spsr (s : State) (c : Nat) : (s.timerAdvance c).spsr = s.spsr := (congrArg State.spsr (timerAdvance_only s c)).trans rfl
@[simp] theorem timerAdvance_pc (s : State) (c : Nat) : (s.timerAdvance c).pc = s.pc := (congrArg State.pc (timerAdvance_only s c)).trans rfl
@[simp] theorem timerAdvance_slotExec (s : State) (c : Nat) : (s.timerAdvance c).slotExec = s.slotExec := (congrArg State.slotExec (timerAdvance_only s c)).trans rfl
@[simp] theorem timerAdvance_slotDecode (s : State) (c : Nat) : (s.timerAdvance c).slotDecode = s.slotDecode := (congrArg State.slotDecode (timerAdvance_only s c)).trans rfl
@[simp] theorem timerAdvance_bubble (s : State) (c : Nat) : (s.timerAdvance c).bubble = s.bubble := (congrArg State.bubble (timerAdvance_only s c)).trans rfl
@[simp] theorem timerAdvance_lastFetch (s : State) (c : Nat) : (s.timerAdvance c).lastFetch = s.lastFetch := (congrArg State.lastFetch (timerAdvance_only s c)).trans rfl
@[simp] theorem timerAdvance_halted (s : State) (c : Nat) : (s.timerAdvance c).halted = s.halted := (congrArg State.halted (timerAdvance_only s c)).trans rfl
@[simp] theorem timerAdvance_stopped (s : State) (c : Nat) : (s.timerAdvance c).stopped = s.stopped := (congrArg State.stopped (timerAdvance_only s c)).trans rfl
@[simp] theorem timerAdvance_iterationEnd (s : State) (c : Nat) : (s.timerAdvance c).iterationEnd = s.iterationEnd := (congrArg State.iterationEnd (timerAdvance_only s c)).trans rfl
@[simp] theorem timerAdvance_dma (s : State) (c : Nat) : (s.timerAdvance c).dma = s.dma := (congrArg State.dma (timerAdvance_only s c)).trans rfl
@[simp] theorem timerAdvance_armed (s : State) (c : Nat) : (s.timerAdvance c).armed = s.armed := (congrArg State.armed (timerAdvance_only s c)).trans rfl
@[simp] theorem timerAdvance_dmaBusValue (s : State) (c : Nat) : (s.timerAdvance c).dmaBusValue = s.dmaBusValue := (congrArg State.dmaBusValue (timerAdvance_only s c)).trans rfl
@[simp] theorem timerAdvance_clock (s : State) (c : Nat) : (s.timerAdvance c).clock = s.clock := (congrArg State.clock (timerAdvance_only s c)).trans rfl
@[simp] theorem timerAdvance_budgetEnd (s : State) (c : Nat) : (s.timerAdvance c).budgetEnd = s.budgetEnd := (congrArg State.budgetEnd (timerAdvance_only s c)).trans rfl
@[simp] theorem timerAdvance_carry (s : State) (c : Nat) : (s.timerAdvance c).carry = s.carry := (congrArg State.carry (timerAdvance_only s c)).trans rfl
@[simp] theorem timerAdvance_busLast (s : State) (c : Nat) : (s.timerAdvance c).busLast = s.busLast := (congrArg State.busLast (timerAdvance_only s c)).trans rfl
@[simp] theorem timerAdvance_mem (s : State) (c : Nat) : (s.timerAdvance c).mem = s.mem := (congrArg State.mem (timerAdvance_only s c)).trans rfl
@[simp] theorem timerAdvance_env (s : State) (c : Nat) : (s.timerAdvance c).env = s.env := (congrArg State.env (timerAdvance_only s c)).trans rfl
@[simp] theorem timerAdvance_stepClocks (s : State) (c : Nat) : (s.timerAdvance c).stepClocks = s.stepClocks := (congrArg State.stepClocks (timerAdvance_only s c)).trans rfl
@[simp] theorem timerAdvance_freeCount (s : State) (c : Nat) : (s.timerAdvance c).freeCount = s.freeCount := (congrArg State.freeCount (timerAdvance_only s c)).trans rfl
@[simp] theorem timerAdvance_userLdm (s : State) (c : Nat) : (s.timerAdvance c).userLdm = s.userLdm := (congrArg State.userLdm (timerAdvance_only s c)).trans rfl

theorem charge_only (s : State) (c : Nat) : s.charge c = { s with irq := (s.charge c).irq, timers := (s.charge c).timers, out := (s.charge c).out, clock := (s.charge c).clock } := by
  unfold State.charge; rw [timerAdvance_only]
@[simp] theorem charge_regs (s : State) (c : Nat) : (s.charge c).regs = s.regs := (congrArg State.regs (charge_only s c)).trans rfl
@[simp] theorem charge_cpsr (s : State) (c : Nat) : (s.charge c).cpsr = s.cpsr := (congrArg State.cpsr (charge_only s c)).trans rfl
@[simp] theorem charge_spsr (s : State) (c : Nat) : (s.charge c).spsr = s.spsr := (congrArg State.spsr (charge_only s c)).trans rfl
@[simp] theorem charge_pc (s : State) (c : Nat) : (s.charge c).pc = s.pc := (congrArg State.pc (charge_only s c)).trans rfl
@[simp] theorem charge_slotExec (s : State) (c : Nat) : (s.charge c).slotExec = s.slotExec := (congrArg State.slotExec (charge_only s c)).trans rfl
@[simp] theorem charge_slotDecode (s : State) (c : Nat) : (s.charge c).slotDecode = s.slotDecode := (congrArg State.slotDecode (charge_only s c)).trans rfl
@[simp] theorem charge_bubble (s : State) (c : Nat) : (s.charge c).bubble = s.bubble := (congrArg State.bubble (charge_only s c)).trans rfl
@[simp] theorem charge_lastFetch (s : State) (c : Nat) : (s.charge c).lastFetch = s.lastFetch := (congrArg State.lastFetch (charge_only s c)).trans rfl
@[simp] theorem charge_halted (s : State) (c : Nat) : (s.charge c).halted = s.halted := (congrArg State.halted (charge_only s c)).trans rfl
@[simp] theorem charge_stopped (s : State) (c : Nat) : (s.charge c).stopped = s.stopped := (congrArg State.stopped (charge_only s c)).trans rfl
@[simp] theorem charge_iterationEnd (s : State) (c : Nat) : (s.charge c).iterationEnd = s.iterationEnd := (congrArg State.iterationEnd (charge_only s c)).trans rfl
@[simp] theorem charge_dma (s : State) (c : Nat) : (s.charge c).dma = s.dma := (congrArg State.dma (charge_only s c)).trans rfl
@[simp] theorem charge_armed (s : State) (c : Nat) : (s.charge c).armed = s.armed := (congrArg State.armed (charge_only s c)).trans rfl
@[simp] theorem charge_dmaBusValue (s : State) (c : Nat) : (s.charge c).dmaBusValue = s.dmaBusValue := (congrArg State.dmaBusValue (charge_only s c)).trans rfl
@[simp] theorem charge_budgetEnd (s : State) (c : Nat) : (s.charge c).budgetEnd = s.budgetEnd := (congrArg State.budgetEnd (charge_only s c)).trans rfl
@[simp] theorem charge_carry (s : State) (c : Nat) : (s.charge c).carry = s.carry := (congrArg State.carry (charge_only s c)).trans rfl
@[simp] theorem charge_busLast (s : State) (c : Nat) : (s.charge c).busLast = s.busLast := (congrArg State.busLast (charge_only s c)).trans rfl
@[simp] theorem charge_mem (s : State) (c : Nat) : (s.charge c).mem = s.mem := (congrArg State.mem (charge_only s c)).trans rfl
@[simp] theorem charge_env (s : State) (c : Nat) : (s.charge c).env = s.env := (congrArg State.env (charge_only s c)).trans rfl
@[simp] theorem charge_stepClocks (s : State) (c : Nat) : (s.charge c).stepClocks = s.stepClocks := (congrArg State.stepClocks (charge_only s c)).trans rfl
@[simp] theorem charge_freeCount (s : State) (c : Nat) : (s.charge c).freeCount = s.freeCount := (congrArg State.freeCount (charge_only s c)).trans rfl
@[simp] theorem charge_userLdm (s : State) (c : Nat) : (s.charge c).userLdm = s.userLdm := (congrArg State.userLdm (charge_only s c)).trans rfl

@[simp] theorem charge_clock (s : State) (c : Nat) : (s.charge c).clock = s.clock + c :=
  timerAdvance_clock { s with clock := s.clock + c } c

theorem settle_only (s : State) : s.settle = { s with irq := (s.settle).irq, timers := (s.settle).timers, out := (s.settle).out, clock := (s.settle).clock, stepClocks := (s.settle).stepClocks } := by
  unfold State.settle; rw [charge_only]
@[simp] theorem settle_regs (s : State) : (s.settle).regs = s.regs := (congrArg State.regs (settle_only s)).trans rfl
@[simp] theorem settle_cpsr (s : State) : (s.settle).cpsr = s.cpsr := (congrArg State.cpsr (settle_only s)).trans rfl
@[simp] theorem settle_spsr (s : State) : (s.settle).spsr = s.spsr := (congrArg State.spsr (settle_only s)).trans rfl
@[simp] theorem settle_pc (s : State) : (s.settle).pc = s.pc := (congrArg State.pc (settle_only s)).trans rfl
@[simp] theorem settle_slotExec (s : State) : (s.settle).slotExec = s.slotExec := (congrArg State.slotExec (settle_only s)).trans rfl
@[simp] theorem settle_slotDecode (s : State) : (s.settle).slotDecode = s.slotDecode := (congrArg State.slotDecode (settle_only s)).trans rfl
@[simp] theorem settle_bubble (s : State) : (s.settle).bubble = s.bubble := (congrArg State.bubble (settle_only s)).trans rfl
@[simp] theorem settle_lastFetch (s : State) : (s.settle).lastFetch = s.lastFetch := (congrArg State.lastFetch (settle_only s)).trans rfl
@[simp] theorem settle_halted (s : State) : (s.settle).halted = s.halted := (congrArg State.halted (settle_only s)).trans rfl
@[simp] theorem settle_stopped (s : State) : (s.settle).stopped = s.stopped := (congrArg State.stopped (settle_only s)).trans rfl
@[simp] theorem settle_iterationEnd (s : State) : (s.settle).iterationEnd = s.iterationEnd := (congrArg State.iterationEnd (settle_only s)).trans rfl
@[simp] theorem settle_dma (s : State) : (s.settle).dma = s.dma := (congrArg State.dma (settle_only s)).trans rfl
@[simp] theorem settle_armed (s : State) : (s.settle).armed = s.armed := (congrArg State.armed (settle_only s)).trans rfl
@[simp] theorem settle_dmaBusValue (s : State) : (s.settle).dmaBusValue = s.dmaBusValue := (congrArg State.dmaBusValue (settle_only s)).trans rfl
@[simp] theorem settle_budgetEnd (s : State) : (s.settle).budgetEnd = s.budgetEnd := (congrArg State.budgetEnd (settle_only s)).trans rfl
@[simp] theorem settle_carry (s : State) : (s.settle).carry = s.carry := (congrArg State.carry (settle_only s)).trans rfl
@[simp] theorem settle_busLast (s : State) : (s.settle).busLast = s.busLast := (congrArg State.busLast (settle_only s)).trans rfl
@[simp] theorem settle_mem (s : State) : (s.settle).mem = s.mem := (congrArg State.mem (settle_only s)).trans rfl
@[simp] theorem settle_env (s : State) : (s.settle).env = s.env := (congrArg State.env (settle_only s)).trans rfl
@[simp] theorem settle_freeCount (s : State) : (s.settle).freeCount = s.freeCount := (congrArg State.freeCount (settle_only s)).trans rfl
@[simp] theorem settle_userLdm (s : State) : (s.settle).userLdm = s.userLdm := (congrArg State.userLdm (settle_only s)).trans rfl

@[simp] theorem settle_clock (s : State) : s.settle.clock = s.clock + s.stepClocks :=
  charge_clock { s with stepClocks := 0 } s.stepClocks

@[simp] theorem settle_stepClocks (s : State) : s.settle.stepClocks = 0 :=
  charge_stepClocks { s with stepClocks := 0 } s.stepClocks

/-- A state that differs from `s` only in what a write to the block's registers can change. -/
def IoOnly (s t : State) : Prop :=
  t = { s with halted := t.halted, stopped := t.stopped, irq := t.irq, dma := t.dma, armed := t.armed, timers := t.timers, busLast := t.busLast }

theorem IoOnly.refl (s : State) : IoOnly s s := rfl

theorem IoOnly.trans {s t u : State} (h : IoOnly s t) (k : IoOnly t u) : IoOnly s u := by
  unfold IoOnly at *; rw [k, h]

theorem ioRegWrite_ioOnly (r : IoReg) (s : State) (a b : Word) : IoOnly s (r.write s a b) := by
  cases r <;> unfold IoReg.write <;> dsimp only
  case dmaCntH n => unfold IoOnly; rw [writeDmaCtl_only]
  case haltcnt =>
    split
    · rfl
    · unfold State.haltOp; split <;> rfl
  all_goals rfl

theorem writeLanes_ioOnly (r : IoReg) (a k : Nat) (v : Word) (s : State) : IoOnly s (r.writeLanes a k v s) := by
  unfold IoReg.writeLanes; dsimp only; split
  · exact IoOnly.refl s
  · exact ioRegWrite_ioOnly r s _ _

theorem ioWrite_ioOnly (s : State) (a k : Nat) (v : Word) : IoOnly s (s.ioWrite a k v) := by
  unfold State.ioWrite
  generalize IoReg.all = l
  induction l generalizing s with
  | nil => exact IoOnly.refl s
  | cons r l ih => exact (writeLanes_ioOnly r a k v s).trans (ih _)

theorem ioWrite_only (s : State) (a k : Nat) (v : Word) : s.ioWrite a k v = { s with halted := (s.ioWrite a k v).halted, stopped := (s.ioWrite a k v).stopped, irq := (s.ioWrite a k v).irq, dma := (s.ioWrite a k v).dma, armed := (s.ioWrite a k v).armed, timers := (s.ioWrite a k v).timers, busLast := (s.ioWrite a k v).busLast } := ioWrite_ioOnly s a k v
@[simp] theorem ioWrite_regs (s : State) (a k : Nat) (v : Word) : (s.ioWrite a k v).regs = s.regs := (congrArg State.regs (ioWrite_only s a k v)).trans rfl
@[simp] theorem ioWrite_cpsr (s : State) (a k : Nat) (v : Word) : (s.ioWrite a k v).cpsr = s.cpsr := (congrArg State.cpsr (ioWrite_only s a k v)).trans rfl
@[simp] theorem ioWrite_spsr (s : State) (a k : Nat) (v : Word) : (s.ioWrite a k v).spsr = s.spsr := (congrArg State.spsr (ioWrite_only s a k v)).trans rfl
@[simp] theorem ioWrite_pc (s : State) (a k : Nat) (v : Word) : (s.ioWrite a k v).pc = s.pc := (congrArg State.pc (ioWrite_only s a k v)).trans rfl
@[simp] theorem ioWrite_slotExec (s : State) (a k : Nat) (v : Word) : (s.ioWrite a k v).slotExec = s.slotExec := (congrArg State.slotExec (ioWrite_only s a k v)).trans rfl
@[simp] theorem ioWrite_slotDecode (s : State) (a k : Nat) (v : Word) : (s.ioWrite a k v).slotDecode = s.slotDecode := (congrArg State.slotDecode (ioWrite_only s a k v)).trans rfl
@[simp] theorem ioWrite_bubble (s : State) (a k : Nat) (v : Word) : (s.ioWrite a k v).bubble = s.bubble := (congrArg State.bubble (ioWrite_only s a k v)).trans rfl
@[simp] theorem ioWrite_lastFetch (s : State) (a k : Nat) (v : Word) : (s.ioWrite a k v).lastFetch = s.lastFetch := (congrArg State.lastFetch (ioWrite_only s a k v)).trans rfl
@[simp] theorem ioWrite_iterationEnd (s : State) (a k : Nat) (v : Word) : (s.ioWrite a k v).iterationEnd = s.iterationEnd := (congrArg State.iterationEnd (ioWrite_only s a k v)).trans rfl
@[simp] theorem ioWrite_dmaBusValue (s : State) (a k : Nat) (v : Word) : (s.ioWrite a k v).dmaBusValue = s.dmaBusValue := (congrArg State.dmaBusValue (ioWrite_only s a k v)).trans rfl
@[simp] theorem ioWrite_clock (s : State) (a k : Nat) (v : Word) : (s.ioWrite a k v).clock = s.clock := (congrArg State.clock (ioWrite_only s a k v)).trans rfl
@[simp] theorem ioWrite_budgetEnd (s : State) (a k : Nat) (v : Word) : (s.ioWrite a k v).budgetEnd = s.budgetEnd := (congrArg State.budgetEnd (ioWrite_only s a k v)).trans rfl
@[simp] theorem ioWrite_carry (s : State) (a k : Nat) (v : Word) : (s.ioWrite a k v).carry = s.carry := (congrArg State.carry (ioWrite_only s a k v)).trans rfl
@[simp] theorem ioWrite_mem (s : State) (a k : Nat) (v : Word) : (s.ioWrite a k v).mem = s.mem := (congrArg State.mem (ioWrite_only s a k v)).trans rfl
@[simp] theorem ioWrite_env (s : State) (a k : Nat) (v : Word) : (s.ioWrite a k v).env = s.env := (congrArg State.env (ioWrite_only s a k v)).trans rfl
@[simp] theorem ioWrite_out (s : State) (a k : Nat) (v : Word) : (s.ioWrite a k v).out = s.out := (congrArg State.out (ioWrite_only s a k v)).trans rfl
@[simp] theorem ioWrite_stepClocks (s : State) (a k : Nat) (v : Word) : (s.ioWrite a k v).stepClocks = s.stepClocks := (congrArg State.stepClocks (ioWrite_only s a k v)).trans rfl
@[simp] theorem ioWrite_freeCount (s : State) (a k : Nat) (v : Word) : (s.ioWrite a k v).freeCount = s.freeCount := (congrArg State.freeCount (ioWrite_only s a k v)).trans rfl
@[simp] theorem ioWrite_userLdm (s : State) (a k : Nat) (v : Word) : (s.ioWrite a k v).userLdm = s.userLdm := (congrArg State.userLdm (ioWrite_only s a k v)).trans rfl

theorem writeBytes_only (s : State) (a k : Nat) (v : Word) : s.writeBytes a k v = { s with halted := (s.writeBytes a k v).halted, stopped := (s.writeBytes a k v).stopped, irq := (s.writeBytes a k v).irq, dma := (s.writeBytes a k v).dma, armed := (s.writeBytes a k v).armed, timers := (s.writeBytes a k v).timers, busLast := (s.writeBytes a k v).busLast, mem := (s.writeBytes a k v).mem } := by
  unfold State.writeBytes; dsimp only; split
  · rw [ioWrite_only]
  · rfl
@[simp] theorem writeBytes_regs (s : State) (a k : Nat) (v : Word) : (s.writeBytes a k v).regs = s.regs := (congrArg State.regs (writeBytes_only s a k v)).trans rfl
@[simp] theorem writeBytes_cpsr (s : State) (a k : Nat) (v : Word) : (s.writeBytes a k v).cpsr = s.cpsr := (congrArg State.cpsr (writeBytes_only s a k v)).trans rfl
@[simp] theorem writeBytes_spsr (s : State) (a k : Nat) (v : Word) : (s.writeBytes a k v).spsr = s.spsr := (congrArg State.spsr (writeBytes_only s a k v)).trans rfl
@[simp] theorem writeBytes_pc (s : State) (a k : Nat) (v : Word) : (s.writeBytes a k v).pc = s.pc := (congrArg State.pc (writeBytes_only s a k v)).trans rfl
@[simp] theorem writeBytes_slotExec (s : State) (a k : Nat) (v : Word) : (s.writeBytes a k v).slotExec = s.slotExec := (congrArg State.slotExec (writeBytes_only s a k v)).trans rfl
@[simp] theorem writeBytes_slotDecode (s : State) (a k : Nat) (v : Word) : (s.writeBytes a k v).slotDecode = s.slotDecode := (congrArg State.slotDecode (writeBytes_only s a k v)).trans rfl
@[simp] theorem writeBytes_bubble (s : State) (a k : Nat) (v : Word) : (s.writeBytes a k v).bubble = s.bubble := (congrArg State.bubble (writeBytes_only s a k v)).trans rfl
@[simp] theorem writeBytes_lastFetch (s : State) (a k : Nat) (v : Word) : (s.writeBytes a k v).lastFetch = s.lastFetch := (congrArg State.lastFetch (writeBytes_only s a k v)).trans rfl
@[simp] theorem writeBytes_iterationEnd (s : State) (a k : Nat) (v : Word) : (s.writeBytes a k v).iterationEnd = s.iterationEnd := (congrArg State.iterationEnd (writeBytes_only s a k v)).trans rfl
@[simp] theorem writeBytes_dmaBusValue (s : State) (a k : Nat) (v : Word) : (s.writeBytes a k v).dmaBusValue = s.dmaBusValue := (congrArg State.dmaBusValue (writeBytes_only s a k v)).trans rfl
@[simp] theorem writeBytes_clock (s : State) (a k : Nat) (v : Word) : (s.writeBytes a k v).clock = s.clock := (congrArg State.clock (writeBytes_only s a k v)).trans rfl
@[simp] theorem writeBytes_budgetEnd (s : State) (a k : Nat) (v : Word) : (s.writeBytes a k v).budgetEnd = s.budgetEnd := (congrArg State.budgetEnd (writeBytes_only s a k v)).trans rfl
@[simp] theorem writeBytes_carry (s : State) (a k : Nat) (v : Word) : (s.writeBytes a k v).carry = s.carry := (congrArg State.carry (writeBytes_only s a k v)).trans rfl
@[simp] theorem writeBytes_env (s : State) (a k : Nat) (v : Word) : (s.writeBytes a k v).env = s.env := (congrArg State.env (writeBytes_only s a k v)).trans rfl
@[simp] theorem writeBytes_out (s : State) (a k : Nat) (v : Word) : (s.writeBytes a k v).out = s.out := (congrArg State.out (writeBytes_only s a k v)).trans rfl
@[simp] theorem writeBytes_stepClocks (s : State) (a k : Nat) (v : Word) : (s.writeBytes a k v).stepClocks = s.stepClocks := (congrArg State.stepClocks (writeBytes_only s a k v)).trans rfl
@[simp] theorem writeBytes_freeCount (s : State) (a k : Nat) (v : Word) : (s.writeBytes a k v).freeCount = s.freeCount := (congrArg State.freeCount (writeBytes_only s a k v)).trans rfl
@[simp] theorem writeBytes_userLdm (s : State) (a k : Nat) (v : Word) : (s.writeBytes a k v).userLdm = s.userLdm := (congrArg State.userLdm (writeBytes_only s a k v)).trans rfl

theorem access_only (s : State) (g : Agent) (a : Word) (w : Width) (k : AccessKind) : s.access g a w k = { s with stepClocks := (s.access g a w k).stepClocks, busLast := (s.access g a w k).busLast } := rfl
@[simp] theorem access_regs (s : State) (g : Agent) (a : Word) (w : Width) (k : AccessKind) : (s.access g a w k).regs = s.regs := (congrArg State.regs (access_only s g a w k)).trans rfl
@[simp] theorem access_cpsr (s : State) (g : Agent) (a : Word) (w : Width) (k : AccessKind) : (s.access g a w k).cpsr = s.cpsr := (congrArg State.cpsr (access_only s g a w k)).trans rfl
@[simp] theorem access_spsr (s : State) (g : Agent) (a : Word) (w : Width) (k : AccessKind) : (s.access g a w k).spsr = s.spsr := (congrArg State.spsr (access_only s g a w k)).trans rfl
@[simp] theorem access_pc (s : State) (g : Agent) (a : Word) (w : Width) (k : AccessKind) : (s.access g a w k).pc = s.pc := (congrArg State.pc (access_only s g a w k)).trans rfl
@[simp] theorem access_slotExec (s : State) (g : Agent) (a : Word) (w : Width) (k : AccessKind) : (s.access g a w k).slotExec = s.slotExec := (congrArg State.slotExec (access_only s g a w k)).trans rfl
@[simp] theorem access_slotDecode (s : State) (g : Agent) (a : Word) (w : Width) (k : AccessKind) : (s.access g a w k).slotDecode = s.slotDecode := (congrArg State.slotDecode (access_only s g a w k)).trans rfl
@[simp] theorem access_bubble (s : State) (g : Agent) (a : Word) (w : Width) (k : AccessKind) : (s.access g a w k).bubble = s.bubble := (congrArg State.bubble (access_only s g a w k)).trans rfl
@[simp] theorem access_lastFetch (s : State) (g : Agent) (a : Word) (w : Width) (k : AccessKind) : (s.access g a w k).lastFetch = s.lastFetch := (congrArg State.lastFetch (access_only s g a w k)).trans rfl
@[simp] theorem access_halted (s : State) (g : Agent) (a : Word) (w : Width) (k : AccessKind) : (s.access g a w k).halted = s.halted := (congrArg State.halted (access_only s g a w k)).trans rfl
@[simp] theorem access_stopped (s : State) (g : Agent) (a : Word) (w : Width) (k : AccessKind) : (s.access g a w k).stopped = s.stopped := (congrArg State.stopped (access_only s g a w k)).trans rfl
@[simp] theorem access_iterationEnd (s : State) (g : Agent) (a : Word) (w : Width) (k : AccessKind) : (s.access g a w k).iterationEnd = s.iterationEnd := (congrArg State.iterationEnd (access_only s g a w k)).trans rfl
@[simp] theorem access_irq (s : State) (g : Agent) (a : Word) (w : Width) (k : AccessKind) : (s.access g a w k).irq = s.irq := (congrArg State.irq (access_only s g a w k)).trans rfl
@[simp] theorem access_dma (s : State) (g : Agent) (a : Word) (w : Width) (k : AccessKind) : (s.access g a w k).dma = s.dma := (congrArg State.dma (access_only s g a w k)).trans rfl
@[simp] theorem access_armed (s : State) (g : Agent) (a : Word) (w : Width) (k : AccessKind) : (s.access g a w k).armed = s.armed := (congrArg State.armed (access_only s g a w k)).trans rfl
@[simp] theorem access_dmaBusValue (s : State) (g : Agent) (a : Word) (w : Width) (k : AccessKind) : (s.access g a w k).dmaBusValue = s.dmaBusValue := (congrArg State.dmaBusValue (access_only s g a w k)).trans rfl
@[simp] theorem access_timers (s : State) (g : Agent) (a : Word) (w : Width) (k : AccessKind) : (s.access g a w k).timers = s.timers := (congrArg State.timers (access_only s g a w k)).trans rfl
@[simp] theorem access_clock (s : State) (g : Agent) (a : Word) (w : Width) (k : AccessKind) : (s.access g a w k).clock = s.clock := (congrArg State.clock (access_only s g a w k)).trans rfl
@[simp] theorem access_budgetEnd (s : State) (g : Agent) (a : Word) (w : Width) (k : AccessKind) : (s.access g a w k).budgetEnd = s.budgetEnd := (congrArg State.budgetEnd (access_only s g a w k)).trans rfl
@[simp] theorem access_carry (s : State) (g : Agent) (a : Word) (w : Width) (k : AccessKind) : (s.access g a w k).carry = s.carry := (congrArg State.carry (access_only s g a w k)).trans rfl
@[simp] theorem access_mem (s : State) (g : Agent) (a : Word) (w : Width) (k : AccessKind) : (s.access g a w k).mem = s.mem := (congrArg State.mem (access_only s g a w k)).trans rfl
@[simp] theorem access_env (s : State) (g : Agent) (a : Word) (w : Width) (k : AccessKind) : (s.access g a w k).env = s.env := (congrArg State.env (access_only s g a w k)).trans rfl
@[simp] theorem access_out (s : State) (g : Agent) (a : Word) (w : Width) (k : AccessKind) : (s.access g a w k).out = s.out := (congrArg State.out (access_only s g a w k)).trans rfl
@[simp] theorem access_freeCount (s : State) (g : Agent) (a : Word) (w : Width) (k : AccessKind) : (s.access g a w k).freeCount = s.freeCount := (congrArg State.freeCount (access_only s g a w k)).trans rfl
@[simp] theorem access_userLdm (s : State) (g : Agent) (a : Word) (w : Width) (k : AccessKind) : (s.access g a w k).userLdm = s.userLdm := (congrArg State.userLdm (access_only s g a w k)).trans rfl

theorem memWrite_only (s : State) (a : Word) (w : Width) (v : Word) : s.memWrite a w v = { s with halted := (s.memWrite a w v).halted, stopped := (s.memWrite a w v).stopped, irq := (s.memWrite a w v).irq, dma := (s.memWrite a w v).dma, armed := (s.memWrite a w v).armed, timers := (s.memWrite a w v).timers, busLast := (s.memWrite a w v).busLast, mem := (s.memWrite a w v).mem, stepClocks := (s.memWrite a w v).stepClocks } := by
  unfold State.memWrite; rw [writeBytes_only]; rfl
@[simp] theorem memWrite_regs (s : State) (a : Word) (w : Width) (v : Word) : (s.memWrite a w v).regs = s.regs := (congrArg State.regs (memWrite_only s a w v)).trans rfl
@[simp] theorem memWrite_cpsr (s : State) (a : Word) (w : Width) (v : Word) : (s.memWrite a w v).cpsr = s.cpsr := (congrArg State.cpsr (memWrite_only s a w v)).trans rfl
@[simp] theorem memWrite_spsr (s : State) (a : Word) (w : Width) (v : Word) : (s.memWrite a w v).spsr = s.spsr := (congrArg State.spsr (memWrite_only s a w v)).trans rfl
@[simp] theorem memWrite_pc (s : State) (a : Word) (w : Width) (v : Word) : (s.memWrite a w v).pc = s.pc := (congrArg State.pc (memWrite_only s a w v)).trans rfl
@[simp] theorem memWrite_slotExec (s : State) (a : Word) (w : Width) (v : Word) : (s.memWrite a w v).slotExec = s.slotExec := (congrArg State.slotExec (memWrite_only s a w v)).trans rfl
@[simp] theorem memWrite_slotDecode (s : State) (a : Word) (w : Width) (v : Word) : (s.memWrite a w v).slotDecode = s.slotDecode := (congrArg State.slotDecode (memWrite_only s a w v)).trans rfl
@[simp] theorem memWrite_bubble (s : State) (a : Word) (w : Width) (v : Word) : (s.memWrite a w v).bubble = s.bubble := (congrArg State.bubble (memWrite_only s a w v)).trans rfl
@[simp] theorem memWrite_lastFetch (s : State) (a : Word) (w : Width) (v : Word) : (s.memWrite a w v).lastFetch = s.lastFetch := (congrArg State.lastFetch (memWrite_only s a w v)).trans rfl
@[simp] theorem memWrite_iterationEnd (s : State) (a : Word) (w : Width) (v : Word) : (s.memWrite a w v).iterationEnd = s.iterationEnd := (congrArg State.iterationEnd (memWrite_only s a w v)).trans rfl
@[simp] theorem memWrite_dmaBusValue (s : State) (a : Word) (w : Width) (v : Word) : (s.memWrite a w v).dmaBusValue = s.dmaBusValue := (congrArg State.dmaBusValue (memWrite_only s a w v)).trans rfl
@[simp] theorem memWrite_clock (s : State) (a : Word) (w : Width) (v : Word) : (s.memWrite a w v).clock = s.clock := (congrArg State.clock (memWrite_only s a w v)).trans rfl
@[simp] theorem memWrite_budgetEnd (s : State) (a : Word) (w : Width) (v : Word) : (s.memWrite a w v).budgetEnd = s.budgetEnd := (congrArg State.budgetEnd (memWrite_only s a w v)).trans rfl
@[simp] theorem memWrite_carry (s : State) (a : Word) (w : Width) (v : Word) : (s.memWrite a w v).carry = s.carry := (congrArg State.carry (memWrite_only s a w v)).trans rfl
@[simp] theorem memWrite_env (s : State) (a : Word) (w : Width) (v : Word) : (s.memWrite a w v).env = s.env := (congrArg State.env (memWrite_only s a w v)).trans rfl
@[simp] theorem memWrite_out (s : State) (a : Word) (w : Width) (v : Word) : (s.memWrite a w v).out = s.out := (congrArg State.out (memWrite_only s a w v)).trans rfl
@[simp] theorem memWrite_freeCount (s : State) (a : Word) (w : Width) (v : Word) : (s.memWrite a w v).freeCount = s.freeCount := (congrArg State.freeCount (memWrite_only s a w v)).trans rfl
@[simp] theorem memWrite_userLdm (s : State) (a : Word) (w : Width) (v : Word) : (s.memWrite a w v).userLdm = s.userLdm := (congrArg State.userLdm (memWrite_only s a w v)).trans rfl

theorem store_only (s : State) (k : StoreKind) (a v : Word) : s.store k a v = { s with halted := (s.store k a v).halted, stopped := (s.store k a v).stopped, irq := (s.store k a v).irq, dma := (s.store k a v).dma, armed := (s.store k a v).armed, timers := (s.store k a v).timers, busLast := (s.store k a v).busLast, mem := (s.store k a v).mem, stepClocks := (s.store k a v).stepClocks } := memWrite_only s _ _ _
@[simp] theorem store_regs (s : State) (k : StoreKind) (a v : Word) : (s.store k a v).regs = s.regs := (congrArg State.regs (store_only s k a v)).trans rfl
@[simp] theorem store_cpsr (s : State) (k : StoreKind) (a v : Word) : (s.store k a v).cpsr = s.cpsr := (congrArg State.cpsr (store_only s k a v)).trans rfl
@[simp] theorem store_spsr (s : State) (k : StoreKind) (a v : Word) : (s.store k a v).spsr = s.spsr := (congrArg State.spsr (store_only s k a v)).trans rfl
@[simp] theorem store_pc (s : State) (k : StoreKind) (a v : Word) : (s.store k a v).pc = s.pc := (congrArg State.pc (store_only s k a v)).trans rfl
@[simp] theorem store_slotExec (s : State) (k : StoreKind) (a v : Word) : (s.store k a v).slotExec = s.slotExec := (congrArg State.slotExec (store_only s k a v)).trans rfl
@[simp] theorem store_slotDecode (s : State) (k : StoreKind) (a v : Word) : (s.store k a v).slotDecode = s.slotDecode := (congrArg State.slotDecode (store_only s k a v)).trans rfl
@[simp] theorem store_bubble (s : State) (k : StoreKind) (a v : Word) : (s.store k a v).bubble = s.bubble := (congrArg State.bubble (store_only s k a v)).trans rfl
@[simp] theorem store_lastFetch (s : State) (k : StoreKind) (a v : Word) : (s.store k a v).lastFetch = s.lastFetch := (congrArg State.lastFetch (store_only s k a v)).trans rfl
@[simp] theorem store_iterationEnd (s : State) (k : StoreKind) (a v : Word) : (s.store k a v).iterationEnd = s.iterationEnd := (congrArg State.iterationEnd (store_only s k a v)).trans rfl
@[simp] theorem store_dmaBusValue (s : State) (k : StoreKind) (a v : Word) : (s.store k a v).dmaBusValue = s.dmaBusValue := (congrArg State.dmaBusValue (store_only s k a v)).trans rfl
@[simp] theorem store_clock (s : State) (k : StoreKind) (a v : Word) : (s.store k a v).clock = s.clock := (congrArg State.clock (store_only s k a v)).trans rfl
@[simp] theorem store_budgetEnd (s : State) (k : StoreKind) (a v : Word) : (s.store k a v).budgetEnd = s.budgetEnd := (congrArg State.budgetEnd (store_only s k a v)).trans rfl
@[simp] theorem store_carry (s : State) (k : StoreKind) (a v : Word) : (s.store k a v).carry = s.carry := (congrArg State.carry (store_only s k a v)).trans rfl
@[simp] theorem store_env (s : State) (k : StoreKind) (a v : Word) : (s.store k a v).env = s.env := (congrArg State.env (store_only s k a v)).trans rfl
@[simp] theorem store_out (s : State) (k : StoreKind) (a v : Word) : (s.store k a v).out = s.out := (congrArg State.out (store_only s k a v)).trans rfl
@[simp] theorem store_freeCount (s : State) (k : StoreKind) (a v : Word) : (s.store k a v).freeCount = s.freeCount := (congrArg State.freeCount (store_only s k a v)).trans rfl
@[simp] theorem store_userLdm (s : State) (k : StoreKind) (a v : Word) : (s.store k a v).userLdm = s.userLdm := (congrArg State.userLdm (store_only s k a v)).trans rfl

theorem loadAccess_only (s : State) (k : LoadKind) (a : Word) : s.loadAccess k a = { s with stepClocks := (s.loadAccess k a).stepClocks, busLast := (s.loadAccess k a).busLast } := by
  cases k <;> first | rfl | (unfold State.loadAccess; dsimp only; split <;> rfl)
@[simp] theorem loadAccess_regs (s : State) (k : LoadKind) (a : Word) : (s.loadAccess k a).regs = s.regs := (congrArg State.regs (loadAccess_only s k a)).trans rfl
@[simp] theorem loadAccess_cpsr (s : State) (k : LoadKind) (a : Word) : (s.loadAccess k a).cpsr = s.cpsr := (congrArg State.cpsr (loadAccess_only s k a)).trans rfl
@[simp] theorem loadAccess_spsr (s : State) (k : LoadKind) (a : Word) : (s.loadAccess k a).spsr = s.spsr := (congrArg State.spsr (loadAccess_only s k a)).trans rfl
@[simp] theorem loadAccess_pc (s : State) (k : LoadKind) (a : Word) : (s.loadAccess k a).pc = s.pc := (congrArg State.pc (loadAccess_only s k a)).trans rfl
@[simp] theorem loadAccess_slotExec (s : State) (k : LoadKind) (a : Word) : (s.loadAccess k a).slotExec = s.slotExec := (congrArg State.slotExec (loadAccess_only s k a)).trans rfl
@[simp] theorem loadAccess_slotDecode (s : State) (k : LoadKind) (a : Word) : (s.loadAccess k a).slotDecode = s.slotDecode := (congrArg State.slotDecode (loadAccess_only s k a)).trans rfl
@[simp] theorem loadAccess_bubble (s : State) (k : LoadKind) (a : Word) : (s.loadAccess k a).bubble = s.bubble := (congrArg State.bubble (loadAccess_only s k a)).trans rfl
@[simp] theorem loadAccess_lastFetch (s : State) (k : LoadKind) (a : Word) : (s.loadAccess k a).lastFetch = s.lastFetch := (congrArg State.lastFetch (loadAccess_only s k a)).trans rfl
@[simp] theorem loadAccess_halted (s : State) (k : LoadKind) (a : Word) : (s.loadAccess k a).halted = s.halted := (congrArg State.halted (loadAccess_only s k a)).trans rfl
@[simp] theorem loadAccess_stopped (s : State) (k : LoadKind) (a : Word) : (s.loadAccess k a).stopped = s.stopped := (congrArg State.stopped (loadAccess_only s k a)).trans rfl
@[simp] theorem loadAccess_iterationEnd (s : State) (k : LoadKind) (a : Word) : (s.loadAccess k a).iterationEnd = s.iterationEnd := (congrArg State.iterationEnd (loadAccess_only s k a)).trans rfl
@[simp] theorem loadAccess_irq (s : State) (k : LoadKind) (a : Word) : (s.loadAccess k a).irq = s.irq := (congrArg State.irq (loadAccess_only s k a)).trans rfl
@[simp] theorem loadAccess_dma (s : State) (k : LoadKind) (a : Word) : (s.loadAccess k a).dma = s.dma := (congrArg State.dma (loadAccess_only s k a)).trans rfl
@[simp] theorem loadAccess_armed (s : State) (k : LoadKind) (a : Word) : (s.loadAccess k a).armed = s.armed := (congrArg State.armed (loadAccess_only s k a)).trans rfl
@[simp] theorem loadAccess_dmaBusValue (s : State) (k : LoadKind) (a : Word) : (s.loadAccess k a).dmaBusValue = s.dmaBusValue := (congrArg State.dmaBusValue (loadAccess_only s k a)).trans rfl
@[simp] theorem loadAccess_timers (s : State) (k : LoadKind) (a : Word) : (s.loadAccess k a).timers = s.timers := (congrArg State.timers (loadAccess_only s k a)).trans rfl
@[simp] theorem loadAccess_clock (s : State) (k : LoadKind) (a : Word) : (s.loadAccess k a).clock = s.clock := (congrArg State.clock (loadAccess_only s k a)).trans rfl
@[simp] theorem loadAccess_budgetEnd (s : State) (k : LoadKind) (a : Word) : (s.loadAccess k a).budgetEnd = s.budgetEnd := (congrArg State.budgetEnd (loadAccess_only s k a)).trans rfl
@[simp] theorem loadAccess_carry (s : State) (k : LoadKind) (a : Word) : (s.loadAccess k a).carry = s.carry := (congrArg State.carry (loadAccess_only s k a)).trans rfl
@[simp] theorem loadAccess_mem (s : State) (k : LoadKind) (a : Word) : (s.loadAccess k a).mem = s.mem := (congrArg State.mem (loadAccess_only s k a)).trans rfl
@[simp] theorem loadAccess_env (s : State) (k : LoadKind) (a : Word) : (s.loadAccess k a).env = s.env := (congrArg State.env (loadAccess_only s k a)).trans rfl
@[simp] theorem loadAccess_out (s : State) (k : LoadKind) (a : Word) : (s.loadAccess k a).out = s.out := (congrArg State.out (loadAccess_only s k a)).trans rfl
@[simp] theorem loadAccess_freeCount (s : State) (k : LoadKind) (a : Word) : (s.loadAccess k a).freeCount = s.freeCount := (congrArg State.freeCount (loadAccess_only s k a)).trans rfl
@[simp] theorem loadAccess_userLdm (s : State) (k : LoadKind) (a : Word) : (s.loadAccess k a).userLdm = s.userLdm := (congrArg State.userLdm (loadAccess_only s k a)).trans rfl

theorem fetch_only (s : State) : s.fetch = { s with stepClocks := (s.fetch).stepClocks, busLast := (s.fetch).busLast, lastFetch := (s.fetch).lastFetch } := rfl
@[simp] theorem fetch_regs (s : State) : (s.fetch).regs = s.regs := (congrArg State.regs (fetch_only s)).trans rfl
@[simp] theorem fetch_cpsr (s : State) : (s.fetch).cpsr = s.cpsr := (congrArg State.cpsr (fetch_only s)).trans rfl
@[simp] theorem fetch_spsr (s : State) : (s.fetch).spsr = s.spsr := (congrArg State.spsr (fetch_only s)).trans rfl
@[simp] theorem fetch_pc (s : State) : (s.fetch).pc = s.pc := (congrArg State.pc (fetch_only s)).trans rfl
@[simp] theorem fetch_slotExec (s : State) : (s.fetch).slotExec = s.slotExec := (congrArg State.slotExec (fetch_only s)).trans rfl
@[simp] theorem fetch_slotDecode (s : State) : (s.fetch).slotDecode = s.slotDecode := (congrArg State.slotDecode (fetch_only s)).trans rfl
@[simp] theorem fetch_bubble (s : State) : (s.fetch).bubble = s.bubble := (congrArg State.bubble (fetch_only s)).trans rfl
@[simp] theorem fetch_halted (s : State) : (s.fetch).halted = s.halted := (congrArg State.halted (fetch_only s)).trans rfl
@[simp] theorem fetch_stopped (s : State) : (s.fetch).stopped = s.stopped := (congrArg State.stopped (fetch_only s)).trans rfl
@[simp] theorem fetch_iterationEnd (s : State) : (s.fetch).iterationEnd = s.iterationEnd := (congrArg State.iterationEnd (fetch_only s)).trans rfl
@[simp] theorem fetch_irq (s : State) : (s.fetch).irq = s.irq := (congrArg State.irq (fetch_only s)).trans rfl
@[simp] theorem fetch_dma (s : State) : (s.fetch).dma = s.dma := (congrArg State.dma (fetch_only s)).trans rfl
@[simp] theorem fetch_armed (s : State) : (s.fetch).armed = s.armed := (congrArg State.armed (fetch_only s)).trans rfl
@[simp] theorem fetch_dmaBusValue (s : State) : (s.fetch).dmaBusValue = s.dmaBusValue := (congrArg State.dmaBusValue (fetch_only s)).trans rfl
@[simp] theorem fetch_timers (s : State) : (s.fetch).timers = s.timers := (congrArg State.timers (fetch_only s)).trans rfl
@[simp] theorem fetch_clock (s : State) : (s.fetch).clock = s.clock := (congrArg State.clock (fetch_only s)).trans rfl
@[simp] theorem fetch_budgetEnd (s : State) : (s.fetch).budgetEnd = s.budgetEnd := (congrArg State.budgetEnd (fetch_only s)).trans rfl
@[simp] theorem fetch_carry (s : State) : (s.fetch).carry = s.carry := (congrArg State.carry (fetch_only s)).trans rfl
@[simp] theorem fetch_mem (s : State) : (s.fetch).mem = s.mem := (congrArg State.mem (fetch_only s)).trans rfl
@[simp] theorem fetch_env (s : State) : (s.fetch).env = s.env := (congrArg State.env (fetch_only s)).trans rfl
@[simp] theorem fetch_out (s : State) : (s.fetch).out = s.out := (congrArg State.out (fetch_only s)).trans rfl
@[simp] theorem fetch_freeCount (s : State) : (s.fetch).freeCount = s.freeCount := (congrArg State.freeCount (fetch_only s)).trans rfl
@[simp] theorem fetch_userLdm (s : State) : (s.fetch).userLdm = s.userLdm := (congrArg State.userLdm (fetch_only s)).trans rfl

theorem beginInstr_only (s : State) : s.beginInstr = { s with stepClocks := (s.beginInstr).stepClocks, busLast := (s.beginInstr).busLast, lastFetch := (s.beginInstr).lastFetch, userLdm := (s.beginInstr).userLdm } := rfl
@[simp] theorem beginInstr_regs (s : State) : (s.beginInstr).regs = s.regs := (congrArg State.regs (beginInstr_only s)).trans rfl
@[simp] theorem beginInstr_cpsr (s : State) : (s.beginInstr).cpsr = s.cpsr := (congrArg State.cpsr (beginInstr_only s)).trans rfl
@[simp] theorem beginInstr_spsr (s : State) : (s.beginInstr).spsr = s.spsr := (congrArg State.spsr (beginInstr_only s)).trans rfl
@[simp] theorem beginInstr_pc (s : State) : (s.beginInstr).pc = s.pc := (congrArg State.pc (beginInstr_only s)).trans rfl
@[simp] theorem beginInstr_slotExec (s : State) : (s.beginInstr).slotExec = s.slotExec := (congrArg State.slotExec (beginInstr_only s)).trans rfl
@[simp] theorem beginInstr_slotDecode (s : State) : (s.beginInstr).slotDecode = s.slotDecode := (congrArg State.slotDecode (beginInstr_only s)).trans rfl
@[simp] theorem beginInstr_bubble (s : State) : (s.beginInstr).bubble = s.bubble := (congrArg State.bubble (beginInstr_only s)).trans rfl
@[simp] theorem beginInstr_halted (s : State) : (s.beginInstr).halted = s.halted := (congrArg State.halted (beginInstr_only s)).trans rfl
@[simp] theorem beginInstr_stopped (s : State) : (s.beginInstr).stopped = s.stopped := (congrArg State.stopped (beginInstr_only s)).trans rfl
@[simp] theorem beginInstr_iterationEnd (s : State) : (s.beginInstr).iterationEnd = s.iterationEnd := (congrArg State.iterationEnd (beginInstr_only s)).trans rfl
@[simp] theorem beginInstr_irq (s : State) : (s.beginInstr).irq = s.irq := (congrArg State.irq (beginInstr_only s)).trans rfl
@[simp] theorem beginInstr_dma (s : State) : (s.beginInstr).dma = s.dma := (congrArg State.dma (beginInstr_only s)).trans rfl
@[simp] theorem beginInstr_armed (s : State) : (s.beginInstr).armed = s.armed := (congrArg State.armed (beginInstr_only s)).trans rfl
@[simp] theorem beginInstr_dmaBusValue (s : State) : (s.beginInstr).dmaBusValue = s.dmaBusValue := (congrArg State.dmaBusValue (beginInstr_only s)).trans rfl
@[simp] theorem beginInstr_timers (s : State) : (s.beginInstr).timers = s.timers := (congrArg State.timers (beginInstr_only s)).trans rfl
@[simp] theorem beginInstr_clock (s : State) : (s.beginInstr).clock = s.clock := (congrArg State.clock (beginInstr_only s)).trans rfl
@[simp] theorem beginInstr_budgetEnd (s : State) : (s.beginInstr).budgetEnd = s.budgetEnd := (congrArg State.budgetEnd (beginInstr_only s)).trans rfl
@[simp] theorem beginInstr_carry (s : State) : (s.beginInstr).carry = s.carry := (congrArg State.carry (beginInstr_only s)).trans rfl
@[simp] theorem beginInstr_mem (s : State) : (s.beginInstr).mem = s.mem := (congrArg State.mem (beginInstr_only s)).trans rfl
@[simp] theorem beginInstr_env (s : State) : (s.beginInstr).env = s.env := (congrArg State.env (beginInstr_only s)).trans rfl
@[simp] theorem beginInstr_out (s : State) : (s.beginInstr).out = s.out := (congrArg State.out (beginInstr_only s)).trans rfl
@[simp] theorem beginInstr_freeCount (s : State) : (s.beginInstr).freeCount = s.freeCount := (congrArg State.freeCount (beginInstr_only s)).trans rfl

theorem blockReads_only (s : State) (l : List (RegNo × Word)) : s.blockReads l = { s with stepClocks := (s.blockReads l).stepClocks, busLast := (s.blockReads l).busLast } := by
  induction l generalizing s with
  | nil => rfl
  | cons x l ih => show State.blockReads (s.access _ _ _ _) l = _; rw [ih]; rfl
@[simp] theorem blockReads_regs (s : State) (l : List (RegNo × Word)) : (s.blockReads l).regs = s.regs := (congrArg State.regs (blockReads_only s l)).trans rfl
@[simp] theorem blockReads_cpsr (s : State) (l : List (RegNo × Word)) : (s.blockReads l).cpsr = s.cpsr := (congrArg State.cpsr (blockReads_only s l)).trans rfl
@[simp] theorem blockReads_spsr (s : State) (l : List (RegNo × Word)) : (s.blockReads l).spsr = s.spsr := (congrArg State.spsr (blockReads_only s l)).trans rfl
@[simp] theorem blockReads_pc (s : State) (l : List (RegNo × Word)) : (s.blockReads l).pc = s.pc := (congrArg State.pc (blockReads_only s l)).trans rfl
@[simp] theorem blockReads_slotExec (s : State) (l : List (RegNo × Word)) : (s.blockReads l).slotExec = s.slotExec := (congrArg State.slotExec (blockReads_only s l)).trans rfl
@[simp] theorem blockReads_slotDecode (s : State) (l : List (RegNo × Word)) : (s.blockReads l).slotDecode = s.slotDecode := (congrArg State.slotDecode (blockReads_only s l)).trans rfl
@[simp] theorem blockReads_bubble (s : State) (l : List (RegNo × Word)) : (s.blockReads l).bubble = s.bubble := (congrArg State.bubble (blockReads_only s l)).trans rfl
@[simp] theorem blockReads_lastFetch (s : State) (l : List (RegNo × Word)) : (s.blockReads l).lastFetch = s.lastFetch := (congrArg State.lastFetch (blockReads_only s l)).trans rfl
@[simp] theorem blockReads_halted (s : State) (l : List (RegNo × Word)) : (s.blockReads l).halted = s.halted := (congrArg State.halted (blockReads_only s l)).trans rfl
@[simp] theorem blockReads_stopped (s : State) (l : List (RegNo × Word)) : (s.blockReads l).stopped = s.stopped := (congrArg State.stopped (blockReads_only s l)).trans rfl
@[simp] theorem blockReads_iterationEnd (s : State) (l : List (RegNo × Word)) : (s.blockReads l).iterationEnd = s.iterationEnd := (congrArg State.iterationEnd (blockReads_only s l)).trans rfl
@[simp] theorem blockReads_irq (s : State) (l : List (RegNo × Word)) : (s.blockReads l).irq = s.irq := (congrArg State.irq (blockReads_only s l)).trans rfl
@[simp] theorem blockReads_dma (s : State) (l : List (RegNo × Word)) : (s.blockReads l).dma = s.dma := (congrArg State.dma (blockReads_only s l)).trans rfl
@[simp] theorem blockReads_armed (s : State) (l : List (RegNo × Word)) : (s.blockReads l).armed = s.armed := (congrArg State.armed (blockReads_only s l)).trans rfl
@[simp] theorem blockReads_dmaBusValue (s : State) (l : List (RegNo × Word)) : (s.blockReads l).dmaBusValue = s.dmaBusValue := (congrArg State.dmaBusValue (blockReads_only s l)).trans rfl
@[simp] theorem blockReads_timers (s : State) (l : List (RegNo × Word)) : (s.blockReads l).timers = s.timers := (congrArg State.timers (blockReads_only s l)).trans rfl
@[simp] theorem blockReads_clock (s : State) (l : List (RegNo × Word)) : (s.blockReads l).clock = s.clock := (congrArg State.clock (blockReads_only s l)).trans rfl
@[simp] theorem blockReads_budgetEnd (s : State) (l : List (RegNo × Word)) : (s.blockReads l).budgetEnd = s.budgetEnd := (congrArg State.budgetEnd (blockReads_only s l)).trans rfl
@[simp] theorem blockReads_carry (s : State) (l : List (RegNo × Word)) : (s.blockReads l).carry = s.carry := (congrArg State.carry (blockReads_only s l)).trans rfl
@[simp] theorem blockReads_mem (s : State) (l : List (RegNo × Word)) : (s.blockReads l).mem = s.mem := (congrArg State.mem (blockReads_only s l)).trans rfl
@[simp] theorem blockReads_env (s : State) (l : List (RegNo × Word)) : (s.blockReads l).env = s.env := (congrArg State.env (blockReads_only s l)).trans rfl
@[simp] theorem blockReads_out (s : State) (l : List (RegNo × Word)) : (s.blockReads l).out = s.out := (congrArg State.out (blockReads_only s l)).trans rfl
@[simp] theorem blockReads_freeCount (s : State) (l : List (RegNo × Word)) : (s.blockReads l).freeCount = s.freeCount := (congrArg State.freeCount (blockReads_only s l)).trans rfl
@[simp] theorem blockReads_userLdm (s : State) (l : List (RegNo × Word)) : (s.blockReads l).userLdm = s.userLdm := (congrArg State.userLdm (blockReads_only s l)).trans rfl

theorem blockSet_only (s : State) (u : Bool) (l : List (RegNo × Word)) : s.blockSet u l = { s with regs := (s.blockSet u l).regs, pc := (s.blockSet u l).pc, bubble := (s.blockSet u l).bubble } := by
  induction l generalizing s with
  | nil => rfl
  | cons x l ih =>
    show State.blockSet (if x.1 = 15#4 then s else if u then s.setUserReg x.1 x.2 else s.setReg x.1 x.2) u l = _
    rw [ih]
    by_cases h : x.1 = 15#4
    · rw [if_pos h]; unfold State.blockSet; rw [List.foldl_cons, if_pos h]
    · rw [if_neg h]; unfold State.blockSet; rw [List.foldl_cons, if_neg h]
      cases u
      · simp only [Bool.false_eq_true, if_false]; rw [setReg_only]
      · simp only [if_true]; rw [setUserReg_only]
@[simp] theorem blockSet_cpsr (s : State) (u : Bool) (l : List (RegNo × Word)) : (s.blockSet u l).cpsr = s.cpsr := (congrArg State.cpsr (blockSet_only s u l)).trans rfl
@[simp] theorem blockSet_spsr (s : State) (u : Bool) (l : List (RegNo × Word)) : (s.blockSet u l).spsr = s.spsr := (congrArg State.spsr (blockSet_only s u l)).trans rfl
@[simp] theorem blockSet_slotExec (s : State) (u : Bool) (l : List (RegNo × Word)) : (s.blockSet u l).slotExec = s.slotExec := (congrArg State.slotExec (blockSet_only s u l)).trans rfl
@[simp] theorem blockSet_slotDecode (s : State) (u : Bool) (l : List (RegNo × Word)) : (s.blockSet u l).slotDecode = s.slotDecode := (congrArg State.slotDecode (blockSet_only s u l)).trans rfl
@[simp] theorem blockSet_lastFetch (s : State) (u : Bool) (l : List (RegNo × Word)) : (s.blockSet u l).lastFetch = s.lastFetch := (congrArg State.lastFetch (blockSet_only s u l)).trans rfl
@[simp] theorem blockSet_halted (s : State) (u : Bool) (l : List (RegNo × Word)) : (s.blockSet u l).halted = s.halted := (congrArg State.halted (blockSet_only s u l)).trans rfl
@[simp] theorem blockSet_stopped (s : State) (u : Bool) (l : List (RegNo × Word)) : (s.blockSet u l).stopped = s.stopped := (congrArg State.stopped (blockSet_only s u l)).trans rfl
@[simp] theorem blockSet_iterationEnd (s : State) (u : Bool) (l : List (RegNo × Word)) : (s.blockSet u l).iterationEnd = s.iterationEnd := (congrArg State.iterationEnd (blockSet_only s u l)).trans rfl
@[simp] theorem blockSet_irq (s : State) (u : Bool) (l : List (RegNo × Word)) : (s.blockSet u l).irq = s.irq := (congrArg State.irq (blockSet_only s u l)).trans rfl
@[simp] theorem blockSet_dma (s : State) (u : Bool) (l : List (RegNo × Word)) : (s.blockSet u l).dma = s.dma := (congrArg State.dma (blockSet_only s u l)).trans rfl
@[simp] theorem blockSet_armed (s : State) (u : Bool) (l : List (RegNo × Word)) : (s.blockSet u l).armed = s.armed := (congrArg State.armed (blockSet_only s u l)).trans rfl
@[simp] theorem blockSet_dmaBusValue (s : State) (u : Bool) (l : List (RegNo × Word)) : (s.blockSet u l).dmaBusValue = s.dmaBusValue := (congrArg State.dmaBusValue (blockSet_only s u l)).trans rfl
@[simp] theorem blockSet_timers (s : State) (u : Bool) (l : List (RegNo × Word)) : (s.blockSet u l).timers = s.timers := (congrArg State.timers (blockSet_only s u l)).trans rfl
@[simp] theorem blockSet_clock (s : State) (u : Bool) (l : List (RegNo × Word)) : (s.blockSet u l).clock = s.clock := (congrArg State.clock (blockSet_only s u l)).trans rfl
@[simp] theorem blockSet_budgetEnd (s : State) (u : Bool) (l : List (RegNo × Word)) : (s.blockSet u l).budgetEnd = s.budgetEnd := (congrArg State.budgetEnd (blockSet_only s u l)).trans rfl
@[simp] theorem blockSet_carry (s : State) (u : Bool) (l : List (RegNo × Word)) : (s.blockSet u l).carry = s.carry := (congrArg State.carry (blockSet_only s u l)).trans rfl
@[simp] theorem blockSet_busLast (s : State) (u : Bool) (l : List (RegNo × Word)) : (s.blockSet u l).busLast = s.busLast := (congrArg State.busLast (blockSet_only s u l)).trans rfl
@[simp] theorem blockSet_mem (s : State) (u : Bool) (l : List (RegNo × Word)) : (s.blockSet u l).mem = s.mem := (congrArg State.mem (blockSet_only s u l)).trans rfl
@[simp] theorem blockSet_env (s : State) (u : Bool) (l : List (RegNo × Word)) : (s.blockSet u l).env = s.env := (congrArg State.env (blockSet_only s u l)).trans rfl
@[simp] theorem blockSet_out (s : State) (u : Bool) (l : List (RegNo × Word)) : (s.blockSet u l).out = s.out := (congrArg State.out (blockSet_only s u l)).trans rfl
@[simp] theorem blockSet_stepClocks (s : State) (u : Bool) (l : List (RegNo × Word)) : (s.blockSet u l).stepClocks = s.stepClocks := (congrArg State.stepClocks (blockSet_only s u l)).trans rfl
@[simp] theorem blockSet_freeCount (s : State) (u : Bool) (l : List (RegNo × Word)) : (s.blockSet u l).freeCount = s.freeCount := (congrArg State.freeCount (blockSet_only s u l)).trans rfl
@[simp] theorem blockSet_userLdm (s : State) (u : Bool) (l : List (RegNo × Word)) : (s.blockSet u l).userLdm = s.userLdm := (congrArg State.userLdm (blockSet_only s u l)).trans rfl

theorem blockStore_only (s : State) (l : List (RegNo × Word × Word)) : s.blockStore l = { s with halted := (s.blockStore l).halted, stopped := (s.blockStore l).stopped, irq := (s.blockStore l).irq, dma := (s.blockStore l).dma, armed := (s.blockStore l).armed, timers := (s.blockStore l).timers, busLast := (s.blockStore l).busLast, mem := (s.blockStore l).mem, stepClocks := (s.blockStore l).stepClocks } := by
  induction l generalizing s with
  | nil => rfl
  | cons x l ih =>
    unfold State.blockStore at *
    rw [List.foldl_cons, ih]
    rw [store_only]
@[simp] theorem blockStore_regs (s : State) (l : List (RegNo × Word × Word)) : (s.blockStore l).regs = s.regs := (congrArg State.regs (blockStore_only s l)).trans rfl
@[simp] theorem blockStore_cpsr (s : State) (l : List (RegNo × Word × Word)) : (s.blockStore l).cpsr = s.cpsr := (congrArg State.cpsr (blockStore_only s l)).trans rfl
@[simp] theorem blockStore_spsr (s : State) (l : List (RegNo × Word × Word)) : (s.blockStore l).spsr = s.spsr := (congrArg State.spsr (blockStore_only s l)).trans rfl
@[simp] theorem blockStore_pc (s : State) (l : List (RegNo × Word × Word)) : (s.blockStore l).pc = s.pc := (congrArg State.pc (blockStore_only s l)).trans rfl
@[simp] theorem blockStore_slotExec (s : State) (l : List (RegNo × Word × Word)) : (s.blockStore l).slotExec = s.slotExec := (congrArg State.slotExec (blockStore_only s l)).trans rfl
@[simp] theorem blockStore_slotDecode (s : State) (l : List (RegNo × Word × Word)) : (s.blockStore l).slotDecode = s.slotDecode := (congrArg State.slotDecode (blockStore_only s l)).trans rfl
@[simp] theorem blockStore_bubble (s : State) (l : List (RegNo × Word × Word)) : (s.blockStore l).bubble = s.bubble := (congrArg State.bubble (blockStore_only s l)).trans rfl
@[simp] theorem blockStore_lastFetch (s : State) (l : List (RegNo × Word × Word)) : (s.blockStore l).lastFetch = s.lastFetch := (congrArg State.lastFetch (blockStore_only s l)).trans rfl
@[simp] theorem blockStore_iterationEnd (s : State) (l : List (RegNo × Word × Word)) : (s.blockStore l).iterationEnd = s.iterationEnd := (congrArg State.iterationEnd (blockStore_only s l)).trans rfl
@[simp] theorem blockStore_dmaBusValue (s : State) (l : List (RegNo × Word × Word)) : (s.blockStore l).dmaBusValue = s.dmaBusValue := (congrArg State.dmaBusValue (blockStore_only s l)).trans rfl
@[simp] theorem blockStore_clock (s : State) (l : List (RegNo × Word × Word)) : (s.blockStore l).clock = s.clock := (congrArg State.clock (blockStore_only s l)).trans rfl
@[simp] theorem blockStore_budgetEnd (s : State) (l : List (RegNo × Word × Word)) : (s.blockStore l).budgetEnd = s.budgetEnd := (congrArg State.budgetEnd (blockStore_only s l)).trans rfl
@[simp] theorem blockStore_carry (s : State) (l : List (RegNo × Word × Word)) : (s.blockStore l).carry = s.carry := (congrArg State.carry (blockStore_only s l)).trans rfl
@[simp] theorem blockStore_env (s : State) (l : List (RegNo × Word × Word)) : (s.blockStore l).env = s.env := (congrArg State.env (blockStore_only s l)).trans rfl
@[simp] theorem blockStore_out (s : State) (l : List (RegNo × Word × Word)) : (s.blockStore l).out = s.out := (congrArg State.out (blockStore_only s l)).trans rfl
@[simp] theorem blockStore_freeCount (s : State) (l : List (RegNo × Word × Word)) : (s.blockStore l).freeCount = s.freeCount := (congrArg State.freeCount (blockStore_only s l)).trans rfl
@[simp] theorem blockStore_userLdm (s : State) (l : List (RegNo × Word × Word)) : (s.blockStore l).userLdm = s.userLdm := (congrArg State.userLdm (blockStore_only s l)).trans rfl

theorem blockBranch_only (s : State) (b : Bool) (l : List (RegNo × Word)) : s.blockBranch b l = { s with cpsr := (s.blockBranch b l).cpsr, pc := (s.blockBranch b l).pc, bubble := (s.blockBranch b l).bubble } := by
  unfold State.blockBranch
  split
  · split
    · rw [restoreCpsr_only]; rfl
    · rfl
  · rfl
@[simp] theorem blockBranch_regs (s : State) (b : Bool) (l : List (RegNo × Word)) : (s.blockBranch b l).regs = s.regs := (congrArg State.regs (blockBranch_only s b l)).trans rfl
@[simp] theorem blockBranch_spsr (s : State) (b : Bool) (l : List (RegNo × Word)) : (s.blockBranch b l).spsr = s.spsr := (congrArg State.spsr (blockBranch_only s b l)).trans rfl
@[simp] theorem blockBranch_slotExec (s : State) (b : Bool) (l : List (RegNo × Word)) : (s.blockBranch b l).slotExec = s.slotExec := (congrArg State.slotExec (blockBranch_only s b l)).trans rfl
@[simp] theorem blockBranch_slotDecode (s : State) (b : Bool) (l : List (RegNo × Word)) : (s.blockBranch b l).slotDecode = s.slotDecode := (congrArg State.slotDecode (blockBranch_only s b l)).trans rfl
@[simp] theorem blockBranch_lastFetch (s : State) (b : Bool) (l : List (RegNo × Word)) : (s.blockBranch b l).lastFetch = s.lastFetch := (congrArg State.lastFetch (blockBranch_only s b l)).trans rfl
@[simp] theorem blockBranch_halted (s : State) (b : Bool) (l : List (RegNo × Word)) : (s.blockBranch b l).halted = s.halted := (congrArg State.halted (blockBranch_only s b l)).trans rfl
@[simp] theorem blockBranch_stopped (s : State) (b : Bool) (l : List (RegNo × Word)) : (s.blockBranch b l).stopped = s.stopped := (congrArg State.stopped (blockBranch_only s b l)).trans rfl
@[simp] theorem blockBranch_iterationEnd (s : State) (b : Bool) (l : List (RegNo × Word)) : (s.blockBranch b l).iterationEnd = s.iterationEnd := (congrArg State.iterationEnd (blockBranch_only s b l)).trans rfl
@[simp] theorem blockBranch_irq (s : State) (b : Bool) (l : List (RegNo × Word)) : (s.blockBranch b l).irq = s.irq := (congrArg State.irq (blockBranch_only s b l)).trans rfl
@[simp] theorem blockBranch_dma (s : State) (b : Bool) (l : List (RegNo × Word)) : (s.blockBranch b l).dma = s.dma := (congrArg State.dma (blockBranch_only s b l)).trans rfl
@[simp] theorem blockBranch_armed (s : State) (b : Bool) (l : List (RegNo × Word)) : (s.blockBranch b l).armed = s.armed := (congrArg State.armed (blockBranch_only s b l)).trans rfl
@[simp] theorem blockBranch_dmaBusValue (s : State) (b : Bool) (l : List (RegNo × Word)) : (s.blockBranch b l).dmaBusValue = s.dmaBusValue := (congrArg State.dmaBusValue (blockBranch_only s b l)).trans rfl
@[simp] theorem blockBranch_timers (s : State) (b : Bool) (l : List (RegNo × Word)) : (s.blockBranch b l).timers = s.timers := (congrArg State.timers (blockBranch_only s b l)).trans rfl
@[simp] theorem blockBranch_clock (s : State) (b : Bool) (l : List (RegNo × Word)) : (s.blockBranch b l).clock = s.clock := (congrArg State.clock (blockBranch_only s b l)).trans rfl
@[simp] theorem blockBranch_budgetEnd (s : State) (b : Bool) (l : List (RegNo × Word)) : (s.blockBranch b l).budgetEnd = s.budgetEnd := (congrArg State.budgetEnd (blockBranch_only s b l)).trans rfl
@[simp] theorem blockBranch_carry (s : State) (b : Bool) (l : List (RegNo × Word)) : (s.blockBranch b l).carry = s.carry := (congrArg State.carry (blockBranch_only s b l)).trans rfl
@[simp] theorem blockBranch_busLast (s : State) (b : Bool) (l : List (RegNo × Word)) : (s.blockBranch b l).busLast = s.busLast := (congrArg State.busLast (blockBranch_only s b l)).trans rfl
@[simp] theorem blockBranch_mem (s : State) (b : Bool) (l : List (RegNo × Word)) : (s.blockBranch b l).mem = s.mem := (congrArg State.mem (blockBranch_only s b l)).trans rfl
@[simp] theorem blockBranch_env (s : State) (b : Bool) (l : List (RegNo × Word)) : (s.blockBranch b l).env = s.env := (congrArg State.env (blockBranch_only s b l)).trans rfl
@[simp] theorem blockBranch_out (s : State) (b : Bool) (l : List (RegNo × Word)) : (s.blockBranch b l).out = s.out := (congrArg State.out (blockBranch_only s b l)).trans rfl
@[simp] theorem blockBranch_stepClocks (s : State) (b : Bool) (l : List (RegNo × Word)) : (s.blockBranch b l).stepClocks = s.stepClocks := (congrArg State.stepClocks (blockBranch_only s b l)).trans rfl
@[simp] theorem blockBranch_freeCount (s : State) (b : Bool) (l : List (RegNo × Word)) : (s.blockBranch b l).freeCount = s.freeCount := (congrArg State.freeCount (blockBranch_only s b l)).trans rfl
@[simp] theorem blockBranch_userLdm (s : State) (b : Bool) (l : List (RegNo × Word)) : (s.blockBranch b l).userLdm = s.userLdm := (congrArg State.userLdm (blockBranch_only s b l)).trans rfl

theorem dpWrite_only (s : State) (S : Bool) (rd : RegNo) (x : AluOut) : s.dpWrite S rd x = { s with regs := (s.dpWrite S rd x).regs, pc := (s.dpWrite S rd x).pc, bubble := (s.dpWrite S rd x).bubble, cpsr := (s.dpWrite S rd x).cpsr } := by
  unfold State.dpWrite
  split
  · split
    · rw [restoreCpsr_only]; rfl
    · rfl
  · dsimp only
    split
    · rw [setReg_only]
    · rw [setReg_only]
@[simp] theorem dpWrite_spsr (s : State) (S : Bool) (rd : RegNo) (x : AluOut) : (s.dpWrite S rd x).spsr = s.spsr := (congrArg State.spsr (dpWrite_only s S rd x)).trans rfl
@[simp] theorem dpWrite_slotExec (s : State) (S : Bool) (rd : RegNo) (x : AluOut) : (s.dpWrite S rd x).slotExec = s.slotExec := (congrArg State.slotExec (dpWrite_only s S rd x)).trans rfl
@[simp] theorem dpWrite_slotDecode (s : State) (S : Bool) (rd : RegNo) (x : AluOut) : (s.dpWrite S rd x).slotDecode = s.slotDecode := (congrArg State.slotDecode (dpWrite_only s S rd x)).trans rfl
@[simp] theorem dpWrite_lastFetch (s : State) (S : Bool) (rd : RegNo) (x : AluOut) : (s.dpWrite S rd x).lastFetch = s.lastFetch := (congrArg State.lastFetch (dpWrite_only s S rd x)).trans rfl
@[simp] theorem dpWrite_halted (s : State) (S : Bool) (rd : RegNo) (x : AluOut) : (s.dpWrite S rd x).halted = s.halted := (congrArg State.halted (dpWrite_only s S rd x)).trans rfl
@[simp] theorem dpWrite_stopped (s : State) (S : Bool) (rd : RegNo) (x : AluOut) : (s.dpWrite S rd x).stopped = s.stopped := (congrArg State.stopped (dpWrite_only s S rd x)).trans rfl
@[simp] theorem dpWrite_iterationEnd (s : State) (S : Bool) (rd : RegNo) (x : AluOut) : (s.dpWrite S rd x).iterationEnd = s.iterationEnd := (congrArg State.iterationEnd (dpWrite_only s S rd x)).trans rfl
@[simp] theorem dpWrite_irq (s : State) (S : Bool) (rd : RegNo) (x : AluOut) : (s.dpWrite S rd x).irq = s.irq := (congrArg State.irq (dpWrite_only s S rd x)).trans rfl
@[simp] theorem dpWrite_dma (s : State) (S : Bool) (rd : RegNo) (x : AluOut) : (s.dpWrite S rd x).dma = s.dma := (congrArg State.dma (dpWrite_only s S rd x)).trans rfl
@[simp] theorem dpWrite_armed (s : State) (S : Bool) (rd : RegNo) (x : AluOut) : (s.dpWrite S rd x).armed = s.armed := (congrArg State.armed (dpWrite_only s S rd x)).trans rfl
@[simp] theorem dpWrite_dmaBusValue (s : State) (S : Bool) (rd : RegNo) (x : AluOut) : (s.dpWrite S rd x).dmaBusValue = s.dmaBusValue := (congrArg State.dmaBusValue (dpWrite_only s S rd x)).trans rfl
@[simp] theorem dpWrite_timers (s : State) (S : Bool) (rd : RegNo) (x : AluOut) : (s.dpWrite S rd x).timers = s.timers := (congrArg State.timers (dpWrite_only s S rd x)).trans rfl
@[simp] theorem dpWrite_clock (s : State) (S : Bool) (rd : RegNo) (x : AluOut) : (s.dpWrite S rd x).clock = s.clock := (congrArg State.clock (dpWrite_only s S rd x)).trans rfl
@[simp] theorem dpWrite_budgetEnd (s : State) (S : Bool) (rd : RegNo) (x : AluOut) : (s.dpWrite S rd x).budgetEnd = s.budgetEnd := (congrArg State.budgetEnd (dpWrite_only s S rd x)).trans rfl
@[simp] theorem dpWrite_carry (s : State) (S : Bool) (rd : RegNo) (x : AluOut) : (s.dpWrite S rd x).carry = s.carry := (congrArg State.carry (dpWrite_only s S rd x)).trans rfl
@[simp] theorem dpWrite_busLast (s : State) (S : Bool) (rd : RegNo) (x : AluOut) : (s.dpWrite S rd x).busLast = s.busLast := (congrArg State.busLast (dpWrite_only s S rd x)).trans rfl
@[simp] theorem dpWrite_mem (s : State) (S : Bool) (rd : RegNo) (x : AluOut) : (s.dpWrite S rd x).mem = s.mem := (congrArg State.mem (dpWrite_only s S rd x)).trans rfl
@[simp] theorem dpWrite_env (s : State) (S : Bool) (rd : RegNo) (x : AluOut) : (s.dpWrite S rd x).env = s.env := (congrArg State.env (dpWrite_only s S rd x)).trans rfl
@[simp] theorem dpWrite_out (s : State) (S : Bool) (rd : RegNo) (x : AluOut) : (s.dpWrite S rd x).out = s.out := (congrArg State.out (dpWrite_only s S rd x)).trans rfl
@[simp] theorem dpWrite_stepClocks (s : State) (S : Bool) (rd : RegNo) (x : AluOut) : (s.dpWrite S rd x).stepClocks = s.stepClocks := (congrArg State.stepClocks (dpWrite_only s S rd x)).trans rfl
@[simp] theorem dpWrite_freeCount (s : State) (S : Bool) (rd : RegNo) (x : AluOut) : (s.dpWrite S rd x).freeCount = s.freeCount := (congrArg State.freeCount (dpWrite_only s S rd x)).trans rfl
@[simp] theorem dpWrite_userLdm (s : State) (S : Bool) (rd : RegNo) (x : AluOut) : (s.dpWrite S rd x).userLdm = s.userLdm := (congrArg State.userLdm (dpWrite_only s S rd x)).trans rfl

end Sys2Proof.Machine
end

