-- ==== Sys2Proof/Laws/Ops.lean ====
section
/-! SUPPORT. What the register operations, the branch and the policy for unpredictable cases do. -/

namespace Sys2Proof.Machine

/-! ## The register bank -/

/-- R15 is the only register with no physical copy (R41, R42). -/
theorem phys_eq_none_iff (m : Mode) (r : RegNo) : phys m r = none ↔ r = 15#4 := by
  revert r; cases m <;> decide

/-- Two live names of one mode never share a copy (R42). -/
theorem phys_inj {m : Mode} {r q : RegNo} {p : Fin 30} (h : phys m r = some p) (k : phys m q = some p) : r = q := by
  have key : ∀ r q : RegNo, phys m r ≠ none → phys m r = phys m q → r = q := by
    cases m <;> decide
  exact key r q (by rw [h]; exact Option.some_ne_none p) (h.trans k.symm)

theorem phys_some {m : Mode} {r : RegNo} (h : r ≠ 15#4) : ∃ p, phys m r = some p :=
  Option.ne_none_iff_exists'.mp fun k => h ((phys_eq_none_iff m r).mp k)

theorem regIn_of_phys {s : State} {m : Mode} {r : RegNo} {p : Fin 30} (h : phys m r = some p) :
    s.regIn m r = s.regs[p] := by
  unfold State.regIn; rw [h]

@[simp] theorem regIn_pc (s : State) (m : Mode) : s.regIn m 15#4 = s.pc := by
  unfold State.regIn; rw [(phys_eq_none_iff m 15#4).mpr rfl]

@[simp] theorem reg_pc (s : State) : s.reg 15#4 = s.pc := regIn_pc s _

/-- A register other than R15 is read from the register file only. -/
theorem regIn_congr {s t : State} {m : Mode} {r : RegNo} (h : r ≠ 15#4) (k : t.regs = s.regs) :
    t.regIn m r = s.regIn m r := by
  obtain ⟨p, hp⟩ := phys_some (m := m) h
  rw [regIn_of_phys hp, regIn_of_phys hp, k]

/-! ## Register writes -/

@[simp] theorem setRegIn_pc_is_branch (s : State) (m : Mode) (v : Word) : s.setRegIn m 15#4 v = s.branch v := by
  unfold State.setRegIn; rw [(phys_eq_none_iff m 15#4).mpr rfl]

/-- A write of R15 is a branch (R17, R18). -/
@[simp] theorem setReg_pc_is_branch (s : State) (v : Word) : s.setReg 15#4 v = s.branch v := setRegIn_pc_is_branch s _ v

theorem setRegIn_of_phys {s : State} {m : Mode} {r : RegNo} {p : Fin 30} (v : Word) (h : phys m r = some p) :
    s.setRegIn m r v = { s with regs := s.regs.set p v } := by
  unfold State.setRegIn; rw [h]

theorem setRegIn_keeps_pc {s : State} {m : Mode} {r : RegNo} (v : Word) (h : r ≠ 15#4) :
    (s.setRegIn m r v).pc = s.pc ∧ (s.setRegIn m r v).bubble = s.bubble := by
  obtain ⟨p, hp⟩ := phys_some (m := m) h
  rw [setRegIn_of_phys v hp]; exact ⟨rfl, rfl⟩

@[simp] theorem setReg_pc_ne {s : State} {r : RegNo} (v : Word) (h : r ≠ 15#4) : (s.setReg r v).pc = s.pc :=
  (setRegIn_keeps_pc v h).1

@[simp] theorem setReg_bubble_ne {s : State} {r : RegNo} (v : Word) (h : r ≠ 15#4) :
    (s.setReg r v).bubble = s.bubble :=
  (setRegIn_keeps_pc v h).2

/-- A register write changes its own copy only (R42, R45). -/
theorem setRegIn_regs_other {s : State} {m : Mode} {r : RegNo} {p : Fin 30} (v : Word) (h : phys m r ≠ some p) :
    (s.setRegIn m r v).regs[p] = s.regs[p] := by
  unfold State.setRegIn
  split
  · rename_i q hq
    have hne : q ≠ p := fun e => h (by rw [hq, e])
    simp [Fin.val_ne_of_ne hne]
  · rfl

theorem setReg_regs_other {s : State} {r : RegNo} {p : Fin 30} (v : Word) (h : phys s.cpsr.mode r ≠ some p) :
    (s.setReg r v).regs[p] = s.regs[p] :=
  setRegIn_regs_other v h

/-- A register other than R15 reads what was written. -/
@[simp] theorem regIn_setRegIn_same {s : State} {m : Mode} {r : RegNo} (v : Word) (h : r ≠ 15#4) :
    (s.setRegIn m r v).regIn m r = v := by
  obtain ⟨p, hp⟩ := phys_some (m := m) h
  rw [setRegIn_of_phys v hp, regIn_of_phys hp]
  simp

@[simp] theorem reg_setReg_same {s : State} {r : RegNo} (v : Word) (h : r ≠ 15#4) : (s.setReg r v).reg r = v := by
  unfold State.reg; rw [setReg_cpsr]; exact regIn_setRegIn_same v h

/-- Writing one register leaves the others of the mode alone. -/
theorem regIn_setRegIn_other {s : State} {m : Mode} {r q : RegNo} (v : Word) (h : q ≠ r) (hq : q ≠ 15#4) :
    (s.setRegIn m r v).regIn m q = s.regIn m q := by
  obtain ⟨p, hp⟩ := phys_some (m := m) hq
  rw [regIn_of_phys hp, regIn_of_phys hp]
  exact setRegIn_regs_other v fun k => h (phys_inj hp k)

theorem reg_setReg_other {s : State} {r q : RegNo} (v : Word) (h : q ≠ r) (hq : q ≠ 15#4) :
    (s.setReg r v).reg q = s.reg q := by
  unfold State.reg; rw [setReg_cpsr]; exact regIn_setRegIn_other v h hq

/-! ## Branches -/

@[simp] theorem branch_pc (s : State) (a : Word) : (s.branch a).pc = alignTarget s.cpsr.t a := rfl

@[simp] theorem branch_bubble (s : State) (a : Word) : (s.branch a).bubble = 2 := rfl

/-! ## Unpredictable cases and conditions -/

@[simp] theorem unpredUnder_fixed (cases : List (UnpredCase × Bool)) (t : State) :
    unpredUnder .fixed cases t = .next t := rfl

@[simp] theorem unpredIf_next (cases : List (UnpredCase × Bool)) (t : State) : unpredIf cases t = .next t := rfl

theorem runArm_passed {c : Cond} {s : State} (h : condPassed c s.cpsr = true) (cases : List (UnpredCase × Bool))
    (t : State) : runArm c s cases t = .next t := by
  unfold runArm; rw [if_pos h]; rfl

theorem runArm_failed {c : Cond} {s : State} (h : condPassed c s.cpsr = false) (cases : List (UnpredCase × Bool))
    (t : State) : runArm c s cases t = .next s := by
  unfold runArm; rw [if_neg (by rw [h]; exact Bool.false_ne_true)]

/-- An ARM instruction always answers a next state: its effect, or none when the condition fails (R23, R143). -/
theorem runArm_next (c : Cond) (s : State) (cases : List (UnpredCase × Bool)) (t : State) :
    runArm c s cases t = .next (if condPassed c s.cpsr then t else s) := by
  unfold runArm; split <;> rfl

@[simp] theorem openC_fixed (s : State) : s.openC = s := rfl

@[simp] theorem openV_fixed (s : State) : s.openV = s := rfl

@[simp] theorem noteUserLdm_fixed (s : State) (u : Bool) : s.noteUserLdm u = s := rfl

@[simp] theorem bankedNext_fixed (i : Instr) (s : State) : bankedNextUnder Config.unpredPolicy i s = false := rfl

/-! ## Modes -/

@[simp] theorem Mode.ofCode_code (m : Mode) : Mode.ofCode m.code = some m := by cases m <;> decide

theorem Mode.code_of_ofCode {b : BitVec 5} {m : Mode} (h : Mode.ofCode b = some m) : m.code = b := by
  revert b; cases m <;> decide

end Sys2Proof.Machine
end

