-- ==== Sys2Proof/Laws/Bus.lean ====
section
/-! SUPPORT. What an access does: which bytes are the block's, what a store leaves in memory, and the values of wide
reads byte by byte. -/

namespace Sys2Proof.Machine

/-! ## Routing -/

/-- The registers of the block cover exactly the ranges of R700. -/
theorem ioAt_eq_none_iff (a : Nat) : ioAt a = none ↔ isIo a = false := by
  unfold ioAt
  rw [List.find?_eq_none]
  constructor
  · intro h
    by_contra hc
    have hc : isIo a = true := by simpa using hc
    simp only [isIo, Bool.or_eq_true, Bool.and_eq_true, decide_eq_true_eq] at hc
    simp only [IoReg.all, IoReg.ofDma, IoReg.ofTimer, IoReg.ofControl, List.mem_append, List.mem_cons,
      List.not_mem_nil, or_false, IoReg.covers, Bool.and_eq_true, decide_eq_true_eq] at h
    have d0 := h (.dmaSad 0); have d1 := h (.dmaDad 0); have d2 := h (.dmaCntL 0); have d3 := h (.dmaCntH 0)
    have e0 := h (.dmaSad 1); have e1 := h (.dmaDad 1); have e2 := h (.dmaCntL 1); have e3 := h (.dmaCntH 1)
    have f0 := h (.dmaSad 2); have f1 := h (.dmaDad 2); have f2 := h (.dmaCntL 2); have f3 := h (.dmaCntH 2)
    have g0 := h (.dmaSad 3); have g1 := h (.dmaDad 3); have g2 := h (.dmaCntL 3); have g3 := h (.dmaCntH 3)
    have t0 := h (.tmCntL 0); have t1 := h (.tmCntH 0); have t2 := h (.tmCntL 1); have t3 := h (.tmCntH 1)
    have t4 := h (.tmCntL 2); have t5 := h (.tmCntH 2); have t6 := h (.tmCntL 3); have t7 := h (.tmCntH 3)
    have c0 := h .ie; have c1 := h .ifl; have c2 := h .ime; have c3 := h .imeHi; have c4 := h .haltcnt
    clear h
    simp [IoReg.base, IoReg.bytes] at d0 d1 d2 d3 e0 e1 e2 e3 f0 f1 f2 f3 g0 g1 g2 g3 t0 t1 t2 t3 t4 t5 t6 t7 c0 c1 c2 c3 c4
    omega
  · intro h r _
    simp only [isIo, Bool.or_eq_false_iff, Bool.and_eq_false_iff, decide_eq_false_iff_not] at h
    simp only [IoReg.covers, Bool.and_eq_true, decide_eq_true_eq]
    cases r <;> rename_i n <;> simp only [IoReg.base, IoReg.bytes] <;> omega

/-- A byte that is not the block's reads from the memory collaborator (R701). -/
theorem byteAt_mem {s : State} {a : Nat} (h : isIo a = false) : s.byteAt a = Memory.read s.mem a := by
  unfold State.byteAt; rw [(ioAt_eq_none_iff a).mpr h]

theorem touchesIo_eq_false_iff (a k : Nat) : touchesIo a k = false ↔ ∀ j < k, isIo (a + j) = false := by
  induction k with
  | zero => simp [touchesIo]
  | succ k ih =>
    simp only [touchesIo, Bool.or_eq_false_iff, ih]
    constructor
    · rintro ⟨h, h'⟩ j hj
      rcases Nat.lt_succ_iff_lt_or_eq.mp hj with hj | hj
      · exact h j hj
      · rw [hj]; exact h'
    · exact fun h => ⟨fun j hj => h j (by omega), h k (by omega)⟩

/-! ## The memory collaborator's part of a write -/

/-- A byte outside the write, or of the block, is unchanged. -/
theorem memLanes_read_other (m : List Host.Cell) (a : Nat) (v : Word) (k : Nat) {b : Nat}
    (h : isIo b = true ∨ b < a ∨ a + k ≤ b) : Memory.read (memLanes m a v k) b = Memory.read m b := by
  induction k with
  | zero => rfl
  | succ k ih =>
    unfold memLanes memLane
    split
    · exact ih (h.imp_right fun x => by omega)
    · rename_i hio
      rw [Memory.read_write_other]
      · exact ih (h.imp_right fun x => by omega)
      · rintro rfl
        rcases h with h | h | h
        · exact hio h
        · omega
        · omega

theorem memLanes_wf {m : List Host.Cell} {a : Nat} (v : Word) {k : Nat} (h : Memory.wf m = true) (ha : a + k ≤ 2 ^ 32) :
    Memory.wf (memLanes m a v k) = true := by
  induction k with
  | zero => exact h
  | succ k ih =>
    unfold memLanes memLane
    split
    · exact ih (by omega)
    · exact Memory.wf_write _ (ih (by omega)) (by omega)

/-- A byte of the write that is the collaborator's holds its byte of the value. -/
theorem memLanes_read_same {m : List Host.Cell} {a : Nat} (v : Word) {k j : Nat} (h : Memory.wf m = true)
    (ha : a + k ≤ 2 ^ 32) (hj : j < k) (hio : isIo (a + j) = false) :
    Memory.read (memLanes m a v k) (a + j) = byteOf v j := by
  induction k with
  | zero => omega
  | succ k ih =>
    unfold memLanes memLane
    rcases Nat.lt_succ_iff_lt_or_eq.mp hj with hj | hj
    · split
      · exact ih (by omega) hj
      · rw [Memory.read_write_other _ _ (by omega)]; exact ih (by omega) hj
    · subst hj
      rw [if_neg (by rw [hio]; exact Bool.false_ne_true)]
      exact Memory.read_write_same _ (memLanes_wf v h (by omega))

/-! ## Writes -/

theorem writeBytes_mem (s : State) (a k : Nat) (v : Word) : (s.writeBytes a k v).mem = memLanes s.mem a v k := by
  unfold State.writeBytes; dsimp only; split
  · rw [ioWrite_mem]
  · rfl

/-- A write that covers no byte of the block changes memory only. -/
theorem writeBytes_of_mem {s : State} {a k : Nat} (v : Word) (h : touchesIo a k = false) :
    s.writeBytes a k v = { s with mem := memLanes s.mem a v k } := by
  unfold State.writeBytes; rw [if_neg (by rw [h]; exact Bool.false_ne_true)]

theorem writeBytes_wf {s : State} {a k : Nat} (v : Word) (h : Memory.wf s.mem = true) (ha : a + k ≤ 2 ^ 32) :
    Memory.wf (s.writeBytes a k v).mem = true := by
  rw [writeBytes_mem]; exact memLanes_wf v h ha

/-! ## Aligned addresses -/

theorem alignWord_toNat (a : Word) : (alignWord a).toNat = a.toNat / 4 * 4 := by
  have h : alignWord a = (a >>> 2) <<< 2 := by
    unfold alignWord; ext i hi
    simp only [BitVec.getElem_and, BitVec.getElem_shiftLeft]
    interval_cases i <;> simp
  rw [h, BitVec.toNat_shiftLeft, BitVec.toNat_ushiftRight, Nat.shiftLeft_eq, Nat.shiftRight_eq_div_pow]
  have := a.isLt
  omega

theorem alignHalf_toNat (a : Word) : (alignHalf a).toNat = a.toNat / 2 * 2 := by
  have h : alignHalf a = (a >>> 1) <<< 1 := by
    unfold alignHalf; ext i hi
    simp only [BitVec.getElem_and, BitVec.getElem_shiftLeft]
    interval_cases i <;> simp
  rw [h, BitVec.toNat_shiftLeft, BitVec.toNat_ushiftRight, Nat.shiftLeft_eq, Nat.shiftRight_eq_div_pow]
  have := a.isLt
  omega

/-- An aligned access does not run over the top of the address space. -/
theorem alignWord_fits (a : Word) : (alignWord a).toNat + 4 ≤ 2 ^ 32 := by
  have := a.isLt; rw [alignWord_toNat]; omega

theorem alignHalf_fits (a : Word) : (alignHalf a).toNat + 2 ≤ 2 ^ 32 := by
  have := a.isLt; rw [alignHalf_toNat]; omega

theorem storeAddr_fits (k : StoreKind) (a : Word) : (storeAddr k a).toNat + (storeWidth k).bytes ≤ 2 ^ 32 := by
  cases k
  · exact alignWord_fits a
  · exact alignHalf_fits a
  · have := a.isLt; simp only [storeAddr, storeWidth, Width.bytes]; omega

theorem store_mem (s : State) (k : StoreKind) (a v : Word) :
    (s.store k a v).mem = memLanes s.mem (storeAddr k a).toNat v (storeWidth k).bytes := by
  unfold State.store State.memWrite; rw [writeBytes_mem]; rfl

theorem store_wf {s : State} (k : StoreKind) (a v : Word) (h : Memory.wf s.mem = true) :
    Memory.wf (s.store k a v).mem = true := by
  rw [store_mem]; exact memLanes_wf v h (storeAddr_fits k a)

end Sys2Proof.Machine
end

