-- ==== Sys2Proof/Laws/Exec.lean ====
section
/-! SUPPORT. What the shared shapes of the meanings answer: the three data-processing forms, the single loads and
stores, the block transfers; and what their register writes leave alone. -/

namespace Sys2Proof.Machine

/-! ## Addresses and branches -/

theorem alignTarget_toNat (t : Bool) (a : Word) :
    (alignTarget t a).toNat = if t then a.toNat / 2 * 2 else a.toNat / 4 * 4 := by
  cases t
  · exact alignWord_toNat a
  · exact alignHalf_toNat a

theorem branch_pc_toNat (s : State) (a : Word) :
    (s.branch a).pc.toNat = if s.cpsr.t then a.toNat / 2 * 2 else a.toNat / 4 * 4 :=
  alignTarget_toNat s.cpsr.t a

/-- R15 as an operand of the register-shift form in ARM state (R224). -/
theorem regShiftOperand_arm {s : State} (h : s.cpsr.t = false) (r : RegNo) :
    s.regShiftOperand r = if r = 15#4 then s.pc + 4 else s.reg r := by
  unfold State.regShiftOperand State.pcPlus State.w; rw [h]; rfl

/-- R15 as a stored value in ARM state (R321). -/
theorem storeValue_arm {s : State} (h : s.cpsr.t = false) (r : RegNo) :
    s.storeValue r = if r = 15#4 then s.pc + 4 else s.reg r := by
  unfold State.storeValue State.pcPlus State.w; rw [h]; rfl

/-! ## Exception return -/

/-- The return of R615 where the mode has an SPSR. -/
theorem restoreCpsr_some {s : State} {p : Spsr} (h : s.spsr.get? s.cpsr.mode = some p) :
    s.restoreCpsr = { s with cpsr := s.cpsr.restore p } := by
  unfold State.restoreCpsr State.spsr?; rw [h]

/-- User and System mode have no SPSR, and CPSR stays (R49, R616). -/
theorem restoreCpsr_none {s : State} (h : s.spsr.get? s.cpsr.mode = none) : s.restoreCpsr = s := by
  unfold State.restoreCpsr State.spsr?; rw [h]

/-! ## Data processing -/

/-- A data-processing result with Rd other than R15. -/
theorem dpWrite_reg {s : State} {rd : RegNo} {p : Fin 30} (S : Bool) (x : AluOut) (h : phys s.cpsr.mode rd = some p) :
    s.dpWrite S rd x = { s with regs := s.regs.set p x.r, cpsr := if S then x.p else s.cpsr } := by
  have hr : rd ≠ 15#4 := fun k => by rw [(phys_eq_none_iff _ rd).mpr k] at h; cases h
  unfold State.dpWrite State.setReg
  rw [if_neg hr, setRegIn_of_phys _ h]
  cases S <;> rfl

/-- A data-processing result with Rd = R15: a branch, with S an exception return (R225). -/
theorem dpWrite_pc (s : State) (S : Bool) (x : AluOut) :
    s.dpWrite S 15#4 x = (if S then s.restoreCpsr else s).branch x.r := by
  unfold State.dpWrite; rw [if_pos rfl]

theorem dpImm_passed {c : Cond} {s : State} (h : condPassed c s.cpsr = true) (f : Alu) (S : Bool) (rn rd : RegNo)
    (rot : BitVec 4) (imm : BitVec 8) :
    dpImm f c S rn rd rot imm s = .next (s.dpWrite S rd (f (s.reg rn) (rotImm rot imm s.cpsr.c) s.cpsr)) :=
  runArm_passed h _ _

theorem dpShiftImm_passed {c : Cond} {s : State} (h : condPassed c s.cpsr = true) (f : Alu) (S : Bool) (rn rd : RegNo)
    (n : BitVec 5) (t : Shift) (rm : RegNo) :
    dpShiftImm f c S rn rd n t rm s =
      .next (s.dpWrite S rd (f (s.reg rn) (shiftImm t n (s.reg rm) s.cpsr.c) s.cpsr)) :=
  runArm_passed h _ _

theorem dpShiftReg_passed {c : Cond} {s : State} (h : condPassed c s.cpsr = true) (f : Alu) (S : Bool)
    (rn rd rs : RegNo) (t : Shift) (rm : RegNo) :
    dpShiftReg f c S rn rd rs t rm s =
      .next ((s.dpWrite S rd (f (s.regShiftOperand rn) (s.regShifted t rs rm) s.cpsr)).internal 1) :=
  runArm_passed h _ _

/-! ## Loads and stores -/

theorem runLoad_passed {c : Cond} {s : State} (h : condPassed c s.cpsr = true) (k : LoadKind)
    (cases : List (UnpredCase × Bool)) (p u wb : Bool) (rn rd : RegNo) (off : Word) :
    runLoad k c cases p u wb rn rd off s = .next (s.load k p u wb rn rd off) :=
  runArm_passed h _ _

theorem runStore_passed {c : Cond} {s : State} (h : condPassed c s.cpsr = true) (k : StoreKind)
    (cases : List (UnpredCase × Bool)) (p u wb : Bool) (rn rd : RegNo) (off : Word) :
    runStore k c cases p u wb rn rd off s = .next (s.storeAt k p u wb rn rd off) :=
  runArm_passed h _ _

/-- The access of a load changes the cost and the last access only. -/
theorem loadAccess_eq (s : State) (k : LoadKind) (a : Word) :
    s.loadAccess k a =
      { s with stepClocks := (s.loadAccess k a).stepClocks, busLast := (s.loadAccess k a).busLast } :=
  loadAccess_only s k a

/-- A byte that a store covers and the collaborator holds is that byte of the value afterwards (R106, R701). -/
theorem store_read_same {s : State} (k : StoreKind) (a v : Word) {j : Nat} (h : Memory.wf s.mem = true)
    (hj : j < (storeWidth k).bytes) (hio : isIo ((storeAddr k a).toNat + j) = false) :
    Memory.read (s.store k a v).mem ((storeAddr k a).toNat + j) = byteOf v j := by
  rw [store_mem]; exact memLanes_read_same v h (storeAddr_fits k a) hj hio

/-- Every byte outside a store, and every byte of the block's registers, stays in memory (R701). -/
theorem store_read_other (s : State) (k : StoreKind) (a v : Word) {b : Nat}
    (h : isIo b = true ∨ b < (storeAddr k a).toNat ∨ (storeAddr k a).toNat + (storeWidth k).bytes ≤ b) :
    Memory.read (s.store k a v).mem b = Memory.read s.mem b := by
  rw [store_mem]; exact memLanes_read_other s.mem _ v _ h

/-! ## Block transfers -/

/-- A register that no entry names keeps its value through the register writes of a block load. -/
theorem blockSet_regs_other (user : Bool) {q : Fin 30} (vals : List (RegNo × Word)) (s : State)
    (h : ∀ x ∈ vals, phys (if user then .user else s.cpsr.mode) x.1 ≠ some q) :
    (s.blockSet user vals).regs[q] = s.regs[q] := by
  induction vals generalizing s with
  | nil => rfl
  | cons x rest ih =>
    have hx := h x (List.mem_cons_self ..)
    have hr : ∀ y ∈ rest, phys (if user then .user else s.cpsr.mode) y.1 ≠ some q :=
      fun y hy => h y (List.mem_cons_of_mem _ hy)
    have e : s.blockSet user (x :: rest) =
        (if x.1 = 15#4 then s else if user then s.setUserReg x.1 x.2 else s.setReg x.1 x.2).blockSet user rest := rfl
    rw [e]
    by_cases h15 : x.1 = 15#4
    · rw [if_pos h15]; exact ih s hr
    · rw [if_neg h15]
      cases user
      · exact (ih (s.setReg x.1 x.2) (by rw [setReg_cpsr]; exact hr)).trans (setReg_regs_other x.2 hx)
      · exact (ih (s.setUserReg x.1 x.2) hr).trans (setRegIn_regs_other x.2 hx)

/-- The addresses of a block transfer are one word apart. -/
theorem blockSlots_length (rs : List RegNo) (a : Word) : (blockSlots rs a).length = rs.length := by
  induction rs generalizing a with
  | nil => rfl
  | cons r rest ih => exact congrArg (· + 1) (ih (a + 4))

theorem blockSlots_regs (rs : List RegNo) (a : Word) : (blockSlots rs a).map Prod.fst = rs := by
  induction rs generalizing a with
  | nil => rfl
  | cons r rest ih => exact congrArg (r :: ·) (ih (a + 4))

/-- Block stores keep memory canonical. -/
theorem blockStore_wf (vals : List (RegNo × Word × Word)) (s : State) (h : Memory.wf s.mem = true) :
    Memory.wf (s.blockStore vals).mem = true := by
  induction vals generalizing s with
  | nil => exact h
  | cons x rest ih => exact ih (s.store .word x.2.1 x.2.2) (store_wf _ _ _ h)

end Sys2Proof.Machine
end

