-- ==== Sys2Proof/Tests/Slice0.lean ====
section
/-! SUPPORT. Tests: decoding by words written from the encoding tables, one step per instruction from the worked
examples of the rules and the vectors of 95_test_vectors.md, and for each statement with hypotheses a state that meets
them. -/

namespace Sys2Proof.Tests

open Sys2Proof.Machine Sys2Proof.Spec

/-! ## Helpers -/

/-- Each word decodes to the instruction beside it. -/
def decodes (l : List (Nat × Nat × Instr)) : Bool := l.all fun x => decide (decodeTableWord x.1 x.2.1 = some x.2.2)

/-- A status word by its 32 bits. -/
def word (w : Word) : Spsr := { flags := w.extractLsb' 28 4, ctrl := w.extractLsb' 0 8 }

/-- Replace the SPSR of a mode. -/
def setSpsr (m : Mode) (p : Spsr) (s : State) : State := { s with spsr := s.spsr.set m p }

/-- Memory with values of 1, 2 or 4 bytes placed in it. -/
def memory (l : List (Nat × Nat × Word)) : List Host.Cell := l.foldl (fun m x => memLanes m x.1 x.2.2 x.2.1) []

/-- The start state of 95_test_vectors.md section 1: boot-complete but for CPSR, the instruction's address, registers
of the mode and memory. -/
def start (cpsr a : Word) (regs : List (RegNo × Word)) (mem : List (Nat × Nat × Word)) : State :=
  let p := State.bootComplete.cpsr.restore (word cpsr)
  regs.foldl (fun s x => s.setReg x.1 x.2)
    { State.bootComplete with cpsr := p, pc := if p.t then a + 4 else a + 8, bubble := 0, mem := memory mem }

/-- One step of an instruction leaves a state that passes a check, given the state before it too. -/
def ran (s : State) (nbits w : Nat) (check : State → State → Bool) : Bool :=
  match step (s.withFetchWord nbits w) with
  | .next t => check s t
  | .fault _ => false
  | .refused _ => false

/-- Some steps, one after the other. -/
def steps : Nat → State → State
  | 0, s => s
  | k + 1, s =>
    match step s with
    | .next t => steps k t
    | .fault _ => s
    | .refused _ => s

/-! ## Decoding: one word for each constructor, its fields placed by the encoding tables (R147..R155, R166, R175, R176) -/

theorem test_decode_dp_immediate : decodes [
    (32, 0x121934A7, .andImm .ne true 9#4 3#4 4#4 167#8),
    (32, 0x123934A7, .eorImm .ne true 9#4 3#4 4#4 167#8),
    (32, 0x125934A7, .subImm .ne true 9#4 3#4 4#4 167#8),
    (32, 0x127934A7, .rsbImm .ne true 9#4 3#4 4#4 167#8),
    (32, 0x129934A7, .addImm .ne true 9#4 3#4 4#4 167#8),
    (32, 0x12B934A7, .adcImm .ne true 9#4 3#4 4#4 167#8),
    (32, 0x12D934A7, .sbcImm .ne true 9#4 3#4 4#4 167#8),
    (32, 0x12F934A7, .rscImm .ne true 9#4 3#4 4#4 167#8),
    (32, 0x131934A7, .tstImm .ne 9#4 3#4 4#4 167#8),
    (32, 0x133934A7, .teqImm .ne 9#4 3#4 4#4 167#8),
    (32, 0x135934A7, .cmpImm .ne 9#4 3#4 4#4 167#8),
    (32, 0x137934A7, .cmnImm .ne 9#4 3#4 4#4 167#8),
    (32, 0x139934A7, .orrImm .ne true 9#4 3#4 4#4 167#8),
    (32, 0x13B934A7, .movImm .ne true 9#4 3#4 4#4 167#8),
    (32, 0x13D934A7, .bicImm .ne true 9#4 3#4 4#4 167#8),
    (32, 0x13F934A7, .mvnImm .ne true 9#4 3#4 4#4 167#8)] = true := by decide

theorem test_decode_dp_shift_by_immediate : decodes [
    (32, 0x101939C6, .andShiftImm .ne true 9#4 3#4 19#5 .asr 6#4),
    (32, 0x103939C6, .eorShiftImm .ne true 9#4 3#4 19#5 .asr 6#4),
    (32, 0x105939C6, .subShiftImm .ne true 9#4 3#4 19#5 .asr 6#4),
    (32, 0x107939C6, .rsbShiftImm .ne true 9#4 3#4 19#5 .asr 6#4),
    (32, 0x109939C6, .addShiftImm .ne true 9#4 3#4 19#5 .asr 6#4),
    (32, 0x10B939C6, .adcShiftImm .ne true 9#4 3#4 19#5 .asr 6#4),
    (32, 0x10D939C6, .sbcShiftImm .ne true 9#4 3#4 19#5 .asr 6#4),
    (32, 0x10F939C6, .rscShiftImm .ne true 9#4 3#4 19#5 .asr 6#4),
    (32, 0x111939C6, .tstShiftImm .ne 9#4 3#4 19#5 .asr 6#4),
    (32, 0x113939C6, .teqShiftImm .ne 9#4 3#4 19#5 .asr 6#4),
    (32, 0x115939C6, .cmpShiftImm .ne 9#4 3#4 19#5 .asr 6#4),
    (32, 0x117939C6, .cmnShiftImm .ne 9#4 3#4 19#5 .asr 6#4),
    (32, 0x119939C6, .orrShiftImm .ne true 9#4 3#4 19#5 .asr 6#4),
    (32, 0x11B939C6, .movShiftImm .ne true 9#4 3#4 19#5 .asr 6#4),
    (32, 0x11D939C6, .bicShiftImm .ne true 9#4 3#4 19#5 .asr 6#4),
    (32, 0x11F939C6, .mvnShiftImm .ne true 9#4 3#4 19#5 .asr 6#4)] = true := by decide

theorem test_decode_dp_shift_by_register : decodes [
    (32, 0x10193556, .andShiftReg .ne true 9#4 3#4 5#4 .asr 6#4),
    (32, 0x10393556, .eorShiftReg .ne true 9#4 3#4 5#4 .asr 6#4),
    (32, 0x10593556, .subShiftReg .ne true 9#4 3#4 5#4 .asr 6#4),
    (32, 0x10793556, .rsbShiftReg .ne true 9#4 3#4 5#4 .asr 6#4),
    (32, 0x10993556, .addShiftReg .ne true 9#4 3#4 5#4 .asr 6#4),
    (32, 0x10B93556, .adcShiftReg .ne true 9#4 3#4 5#4 .asr 6#4),
    (32, 0x10D93556, .sbcShiftReg .ne true 9#4 3#4 5#4 .asr 6#4),
    (32, 0x10F93556, .rscShiftReg .ne true 9#4 3#4 5#4 .asr 6#4),
    (32, 0x11193556, .tstShiftReg .ne 9#4 3#4 5#4 .asr 6#4),
    (32, 0x11393556, .teqShiftReg .ne 9#4 3#4 5#4 .asr 6#4),
    (32, 0x11593556, .cmpShiftReg .ne 9#4 3#4 5#4 .asr 6#4),
    (32, 0x11793556, .cmnShiftReg .ne 9#4 3#4 5#4 .asr 6#4),
    (32, 0x11993556, .orrShiftReg .ne true 9#4 3#4 5#4 .asr 6#4),
    (32, 0x11B93556, .movShiftReg .ne true 9#4 3#4 5#4 .asr 6#4),
    (32, 0x11D93556, .bicShiftReg .ne true 9#4 3#4 5#4 .asr 6#4),
    (32, 0x11F93556, .mvnShiftReg .ne true 9#4 3#4 5#4 .asr 6#4)] = true := by decide

theorem test_decode_psr_bx_multiply_swap : decodes [
    (32, 0x114F3000, .mrs .ne true 15#4 3#4 0#4 0#4),
    (32, 0x1169F006, .msrReg .ne true 9#4 15#4 0#4 6#4),
    (32, 0x1369F4A7, .msrImm .ne true 9#4 15#4 4#4 167#8),
    (32, 0x112FFF16, .bx .ne 4095#12 6#4),
    (32, 0x10139596, .mul .ne true 3#4 9#4 5#4 6#4),
    (32, 0x10339596, .mla .ne true 3#4 9#4 5#4 6#4),
    (32, 0x109C7596, .umull .ne true 12#4 7#4 5#4 6#4),
    (32, 0x10BC7596, .umlal .ne true 12#4 7#4 5#4 6#4),
    (32, 0x10DC7596, .smull .ne true 12#4 7#4 5#4 6#4),
    (32, 0x10FC7596, .smlal .ne true 12#4 7#4 5#4 6#4),
    (32, 0x11093096, .swp .ne 9#4 3#4 0#4 6#4),
    (32, 0x11493096, .swpb .ne 9#4 3#4 0#4 6#4)] = true := by decide

theorem test_decode_arm_undefined : decodes [
    (32, 0x10412397, .undefU1 .ne 4#5 291#12 7#4),
    (32, 0x11C123F7, .undefU2 .ne 14#4 291#12 true 7#4),
    (32, 0x11612317, .undefU3 .ne 3#2 291#12 1#4 7#4),
    (32, 0x13412345, .undefU4 .ne true 74565#20),
    (32, 0x16A86437, .undefU5 .ne 344865#20 7#4)] = true := by decide

theorem test_decode_halfword_transfer : decodes [
    (32, 0x11E931B1, .strh .ne true true true 9#4 3#4 (.imm 1#4 1#4)),
    (32, 0x11F931B1, .ldrh .ne true true true 9#4 3#4 (.imm 1#4 1#4)),
    (32, 0x11F931D1, .ldrsb .ne true true true 9#4 3#4 (.imm 1#4 1#4)),
    (32, 0x11F931F1, .ldrsh .ne true true true 9#4 3#4 (.imm 1#4 1#4))] = true := by decide

theorem test_decode_single_transfer : decodes [
    (32, 0x15B938C3, .ldrImmPre .ne true true 9#4 3#4 2243#12),
    (32, 0x149938C3, .ldrImmPost .ne true 9#4 3#4 2243#12),
    (32, 0x17B939C6, .ldrRegPre .ne true true 9#4 3#4 19#5 .asr 6#4),
    (32, 0x169939C6, .ldrRegPost .ne true 9#4 3#4 19#5 .asr 6#4),
    (32, 0x15A938C3, .strImmPre .ne true true 9#4 3#4 2243#12),
    (32, 0x148938C3, .strImmPost .ne true 9#4 3#4 2243#12),
    (32, 0x17A939C6, .strRegPre .ne true true 9#4 3#4 19#5 .asr 6#4),
    (32, 0x168939C6, .strRegPost .ne true 9#4 3#4 19#5 .asr 6#4),
    (32, 0x15F938C3, .ldrbImmPre .ne true true 9#4 3#4 2243#12),
    (32, 0x14D938C3, .ldrbImmPost .ne true 9#4 3#4 2243#12),
    (32, 0x17F939C6, .ldrbRegPre .ne true true 9#4 3#4 19#5 .asr 6#4),
    (32, 0x16D939C6, .ldrbRegPost .ne true 9#4 3#4 19#5 .asr 6#4),
    (32, 0x15E938C3, .strbImmPre .ne true true 9#4 3#4 2243#12),
    (32, 0x14C938C3, .strbImmPost .ne true 9#4 3#4 2243#12),
    (32, 0x17E939C6, .strbRegPre .ne true true 9#4 3#4 19#5 .asr 6#4),
    (32, 0x16C939C6, .strbRegPost .ne true 9#4 3#4 19#5 .asr 6#4),
    (32, 0x14B938C3, .ldrtImm .ne true 9#4 3#4 2243#12),
    (32, 0x16B939C6, .ldrtReg .ne true 9#4 3#4 19#5 .asr 6#4),
    (32, 0x14A938C3, .strtImm .ne true 9#4 3#4 2243#12),
    (32, 0x16A939C6, .strtReg .ne true 9#4 3#4 19#5 .asr 6#4),
    (32, 0x14F938C3, .ldrbtImm .ne true 9#4 3#4 2243#12),
    (32, 0x16F939C6, .ldrbtReg .ne true 9#4 3#4 19#5 .asr 6#4),
    (32, 0x14E938C3, .strbtImm .ne true 9#4 3#4 2243#12),
    (32, 0x16E939C6, .strbtReg .ne true 9#4 3#4 19#5 .asr 6#4)] = true := by decide

theorem test_decode_block_branch_coprocessor_swi : decodes [
    (32, 0x19F98421, .ldm .ne true true true true 9#4 33825#16),
    (32, 0x19E98421, .stm .ne true true true true 9#4 33825#16),
    (32, 0x1A923456, .b .ne 9581654#24),
    (32, 0x1B923456, .bl .ne 9581654#24),
    (32, 0x1DF9BD5B, .ldc .ne true true true true 9#4 11#4 13#4 91#8),
    (32, 0x1DE9BD5B, .stc .ne true true true true 9#4 11#4 13#4 91#8),
    (32, 0x1E52BDCA, .cdp .ne 5#4 2#4 11#4 13#4 6#3 10#4),
    (32, 0x1EA23DDA, .mcr .ne 5#3 2#4 3#4 13#4 6#3 10#4),
    (32, 0x1EB23DDA, .mrc .ne 5#3 2#4 3#4 13#4 6#3 10#4),
    (32, 0x1FABCDEF, .swi .ne 11259375#24)] = true := by decide

theorem test_decode_thumb_alu : decodes [
    (16, 0x056B, .tLslImm 21#5 5#3 3#3),
    (16, 0x0D6B, .tLsrImm 21#5 5#3 3#3),
    (16, 0x156B, .tAsrImm 21#5 5#3 3#3),
    (16, 0x186B, .tAddReg 1#3 5#3 3#3),
    (16, 0x1A6B, .tSubReg 1#3 5#3 3#3),
    (16, 0x1D6B, .tAddImm3 5#3 5#3 3#3),
    (16, 0x1F6B, .tSubImm3 5#3 5#3 3#3),
    (16, 0x23A7, .tMovImm8 3#3 167#8),
    (16, 0x2BA7, .tCmpImm8 3#3 167#8),
    (16, 0x33A7, .tAddImm8 3#3 167#8),
    (16, 0x3BA7, .tSubImm8 3#3 167#8),
    (16, 0x402B, .tAnd 5#3 3#3),
    (16, 0x406B, .tEor 5#3 3#3),
    (16, 0x40AB, .tLsl 5#3 3#3),
    (16, 0x40EB, .tLsr 5#3 3#3),
    (16, 0x412B, .tAsr 5#3 3#3),
    (16, 0x416B, .tAdc 5#3 3#3),
    (16, 0x41AB, .tSbc 5#3 3#3),
    (16, 0x41EB, .tRor 5#3 3#3),
    (16, 0x422B, .tTst 5#3 3#3),
    (16, 0x426B, .tNeg 5#3 3#3),
    (16, 0x42AB, .tCmp 5#3 3#3),
    (16, 0x42EB, .tCmn 5#3 3#3),
    (16, 0x432B, .tOrr 5#3 3#3),
    (16, 0x436B, .tMul 5#3 3#3),
    (16, 0x43AB, .tBic 5#3 3#3),
    (16, 0x43EB, .tMvn 5#3 3#3),
    (16, 0x44AB, .tAddHi true false 5#3 3#3),
    (16, 0x45AB, .tCmpHi true false 5#3 3#3),
    (16, 0x46AB, .tMovHi true false 5#3 3#3),
    (16, 0x47AB, .tBx true false 5#3 3#3),
    (16, 0xA3C9, .tAddPc 3#3 201#8),
    (16, 0xABC9, .tAddSp 3#3 201#8),
    (16, 0xB055, .tAddSpImm 85#7),
    (16, 0xB0D5, .tSubSpImm 85#7)] = true := by decide

theorem test_decode_thumb_transfer : decodes [
    (16, 0x4BC9, .tLdrPc 3#3 201#8),
    (16, 0x5113, .tStrReg 4#3 2#3 3#3),
    (16, 0x5513, .tStrbReg 4#3 2#3 3#3),
    (16, 0x5913, .tLdrReg 4#3 2#3 3#3),
    (16, 0x5D13, .tLdrbReg 4#3 2#3 3#3),
    (16, 0x5313, .tStrhReg 4#3 2#3 3#3),
    (16, 0x5713, .tLdsbReg 4#3 2#3 3#3),
    (16, 0x5B13, .tLdrhReg 4#3 2#3 3#3),
    (16, 0x5F13, .tLdshReg 4#3 2#3 3#3),
    (16, 0x6553, .tStrImm 21#5 2#3 3#3),
    (16, 0x6D53, .tLdrImm 21#5 2#3 3#3),
    (16, 0x7553, .tStrbImm 21#5 2#3 3#3),
    (16, 0x7D53, .tLdrbImm 21#5 2#3 3#3),
    (16, 0x8553, .tStrhImm 21#5 2#3 3#3),
    (16, 0x8D53, .tLdrhImm 21#5 2#3 3#3),
    (16, 0x93C9, .tStrSp 3#3 201#8),
    (16, 0x9BC9, .tLdrSp 3#3 201#8),
    (16, 0xB592, .tPush true 146#8),
    (16, 0xBD92, .tPop true 146#8),
    (16, 0xC292, .tStmia 2#3 146#8),
    (16, 0xCA92, .tLdmia 2#3 146#8)] = true := by decide

theorem test_decode_thumb_undefined : decodes [
    (16, 0xB1A5, .tUndefU1a 165#8),
    (16, 0xB2A5, .tUndefU1b 165#9),
    (16, 0xB6A5, .tUndefU1c 165#9),
    (16, 0xB8A5, .tUndefU1d 165#10),
    (16, 0xBEA5, .tUndefU1e 165#9),
    (16, 0xDEA5, .tUndefU2 165#8),
    (16, 0xE8A5, .tUndefU3 165#11)] = true := by decide

theorem test_decode_thumb_branch_swi : decodes [
    (16, 0xD096, .tBEq 150#8),
    (16, 0xD196, .tBNe 150#8),
    (16, 0xD296, .tBCs 150#8),
    (16, 0xD396, .tBCc 150#8),
    (16, 0xD496, .tBMi 150#8),
    (16, 0xD596, .tBPl 150#8),
    (16, 0xD696, .tBVs 150#8),
    (16, 0xD796, .tBVc 150#8),
    (16, 0xD896, .tBHi 150#8),
    (16, 0xD996, .tBLs 150#8),
    (16, 0xDA96, .tBGe 150#8),
    (16, 0xDB96, .tBLt 150#8),
    (16, 0xDC96, .tBGt 150#8),
    (16, 0xDD96, .tBLe 150#8),
    (16, 0xDF11, .tSwi 17#8),
    (16, 0xE4D3, .tB 1235#11),
    (16, 0xF4D3, .tBlPrefix 1235#11),
    (16, 0xFCD3, .tBlSuffix 1235#11)] = true := by decide

/-! ## One step: the vectors of 95_test_vectors.md section 3 -/

/-- V-ENC-1 (95 §3.2, MOV__imm): MOVEQ R0, #1 with Z = 0 (condition fails). -/
theorem test_enc_1 :
    ran (start 0x0000001F 0x08000000 [] []) 32 0x03A00001 (fun s t => t.regs == s.regs && t.cpsr == s.cpsr && t.mem == s.mem) = true := by decide

/-- V-ENC-2 (95 §3.2, MOV__imm): MOVEQ R0, #1 with Z = 1. -/
theorem test_enc_2 :
    ran (start 0x4000001F 0x08000000 [] []) 32 0x03A00001 (fun s t => t.reg 0 == 0x00000001 && t.cpsr == s.cpsr) = true := by decide

/-- V-ENC-5 (95 §3.2, CMP__imm): CMP R0, #0 with Rd field = 15 (Rd ignored, D15). -/
theorem test_enc_5 :
    ran (start 0x0000001F 0x08000000 [(0, 0x0)] []) 32 0xE350F000 (fun _ t => t.cpsr.toWord == 0x6000001F) = true := by decide

/-- V-BR-1 (95 §3.3, B): B with the most negative offset (offset24 = 0x800000). -/
theorem test_br_1 :
    ran (start 0x0000001F 0x08000000 [] []) 32 0xEA800000 (fun s t => t.pc == 0x06000008 && t.bubble == 2 && t.cpsr == s.cpsr) = true := by decide

/-- V-BR-2 (95 §3.3, BL): BL at the top of memory wraps modulo 2^32 (offset +4). -/
theorem test_br_2 :
    ran (start 0x0000001F 0xFFFFFFF8 [] []) 32 0xEB000001 (fun s t => t.reg 14 == 0xFFFFFFFC && t.pc == 0x00000004 && t.bubble == 2 && t.cpsr == s.cpsr) = true := by decide

/-- V-BR-3 (95 §3.3, BX): BX R0 with R0 bit 1 set and bit 0 clear (ARM target aligned down, BX-arm-misaligned). -/
theorem test_br_3 :
    ran (start 0x0000001F 0x08000000 [(0, 0x8000102)] []) 32 0xE12FFF10 (fun s t => t.pc == 0x08000100 && t.bubble == 2 && t.cpsr == s.cpsr) = true := by decide

/-- V-BR-4 (95 §3.3, BX): BX R15 at A (reads A + 8, stays ARM). -/
theorem test_br_4 :
    ran (start 0x0000001F 0x08000100 [] []) 32 0xE12FFF1F (fun s t => t.pc == 0x08000108 && t.bubble == 2 && t.cpsr == s.cpsr) = true := by decide

/-- V-DP-1 (95 §3.4, MOV__reg__imm_shift): MOVS R0, R1, LSL #0: carry unchanged. -/
theorem test_dp_1 :
    ran (start 0x2000001F 0x08000000 [(1, 0x80000000)] []) 32 0xE1B00001 (fun _ t => t.reg 0 == 0x80000000 && t.cpsr.toWord == 0xA000001F) = true := by decide

/-- V-DP-2 (95 §3.4, MOV__reg__imm_shift): MOVS R0, R1, LSR #32 (encoded amount 0). -/
theorem test_dp_2 :
    ran (start 0x0000001F 0x08000000 [(1, 0x80000001)] []) 32 0xE1B00021 (fun _ t => t.cpsr.toWord == 0x6000001F) = true := by decide

/-- V-DP-5 (95 §3.4, MOV__reg__reg_shift): MOVS R0, R1, LSL R2 with R2 = 32. -/
theorem test_dp_5 :
    ran (start 0x0000001F 0x08000000 [(1, 0x1), (2, 0x20)] []) 32 0xE1B00211 (fun _ t => t.cpsr.toWord == 0x6000001F) = true := by decide

/-- V-DP-6 (95 §3.4, MOV__reg__reg_shift): MOVS R0, R1, LSL R2 with R2 = 33. -/
theorem test_dp_6 :
    ran (start 0x2000001F 0x08000000 [(1, 0x1), (2, 0x21)] []) 32 0xE1B00211 (fun _ t => t.cpsr.toWord == 0x4000001F) = true := by decide

/-- V-DP-10 (95 §3.4, ADD__imm): ADD R0, PC, #0 (R15 reads A + 8). -/
theorem test_dp_10 :
    ran (start 0x0000001F 0x08000100 [] []) 32 0xE28F0000 (fun s t => t.reg 0 == 0x08000108 && t.cpsr == s.cpsr) = true := by decide

/-- V-DP-11 (95 §3.4, ADD__reg__reg_shift): ADD R0, PC, R1, LSL R2 (register shift: R15 reads A + 12). -/
theorem test_dp_11 :
    ran (start 0x0000001F 0x08000100 [(1, 0x0), (2, 0x0)] []) 32 0xE08F0211 (fun s t => t.reg 0 == 0x0800010C && t.cpsr == s.cpsr) = true := by decide

/-- V-DP-13 (95 §3.4, SUB__reg__imm_shift): SUBS R0, R0, R0 (equal operands: C = 1, Z = 1). -/
theorem test_dp_13 :
    ran (start 0x0000001F 0x08000000 [(0, 0x1234)] []) 32 0xE0500000 (fun _ t => t.reg 0 == 0x00000000 && t.cpsr.toWord == 0x6000001F) = true := by decide

/-- V-DP-14 (95 §3.4, RSB__imm): RSBS R0, R1, #0 with R1 = 0x80000000 (overflow). -/
theorem test_dp_14 :
    ran (start 0x0000001F 0x08000000 [(1, 0x80000000)] []) 32 0xE2710000 (fun _ t => t.reg 0 == 0x80000000 && t.cpsr.toWord == 0x9000001F) = true := by decide

/-- V-DP-15 (95 §3.4, SBC__reg__imm_shift): SBCS R0, R1, R2 with C = 0, R1 = 0, R2 = 0 (borrow). -/
theorem test_dp_15 :
    ran (start 0x0000001F 0x08000000 [(1, 0x0), (2, 0x0)] []) 32 0xE0D10002 (fun _ t => t.reg 0 == 0xFFFFFFFF && t.cpsr.toWord == 0x8000001F) = true := by decide

/-- V-DP-16 (95 §3.4, ADC__reg__imm_shift): ADCS R0, R1, R2 with C = 1, R1 = 0x7FFFFFFF, R2 = 0. -/
theorem test_dp_16 :
    ran (start 0x2000001F 0x08000000 [(1, 0x7FFFFFFF), (2, 0x0)] []) 32 0xE0B10002 (fun _ t => t.reg 0 == 0x80000000 && t.cpsr.toWord == 0x9000001F) = true := by decide

/-- V-DP-18 (95 §3.4, SUB__imm): SUBS PC, LR, #4 in IRQ mode with SPSR_irq = 0x0000001F (IRQ return). -/
theorem test_dp_18 :
    ran (setSpsr .irq (word 0x0000001F) (start 0x00000092 0x08000000 [(14, 0x8000124)] [])) 32 0xE25EF004 (fun _ t => t.reg 13 == 0x03007F00 && t.reg 14 == 0x00000000 && t.cpsr.toWord == 0x0000001F && t.regIn .irq 14 == 0x08000124 && t.pc == 0x08000120 && t.bubble == 2) = true := by decide

/-- V-DP-21 (95 §3.4, TEQ__reg__imm_shift): TEQ R0, R1, LSL #1: logical op sets C from the shifter. -/
theorem test_dp_21 :
    ran (start 0x0000001F 0x08000000 [(0, 0x0), (1, 0x80000000)] []) 32 0xE1300081 (fun _ t => t.cpsr.toWord == 0x6000001F) = true := by decide

/-- V-PSR-1 (95 §3.5, MSR__reg): MSR CPSR_fc, R0 in User mode (control field ignored). -/
theorem test_psr_1 :
    ran (start 0x00000010 0x08000000 [(0, 0xF00000D3)] []) 32 0xE129F000 (fun _ t => t.cpsr.toWord == 0xF0000010) = true := by decide

/-- V-PSR-2 (95 §3.5, MSR__reg): MSR CPSR_c, R0 with an invalid mode 0x05 (CPSR-bad-mode: M kept, I and F written). -/
theorem test_psr_2 :
    ran (start 0x0000001F 0x08000000 [(0, 0xC5)] []) 32 0xE121F000 (fun _ t => t.cpsr.toWord == 0x000000DF) = true := by decide

/-- V-PSR-6 (95 §3.5, MSR__imm): MSR CPSR_c, #0x12 from System mode (switch to IRQ bank, I = 0). -/
theorem test_psr_6 :
    ran (start 0x0000001F 0x08000000 [] []) 32 0xE321F012 (fun _ t => t.reg 13 == 0x03007FA0 && t.cpsr.toWord == 0x00000012) = true := by decide

/-- V-MUL-1 (95 §3.6, MUL): MULS R0, R1, R2 with a zero product (C, V unchanged). -/
theorem test_mul_1 :
    ran (start 0x3000001F 0x08000000 [(1, 0x0), (2, 0x5)] []) 32 0xE0100291 (fun _ t => t.cpsr.toWord == 0x7000001F) = true := by decide

/-- V-MUL-2 (95 §3.6, MUL): MUL R0, R1, R2 with R1 = -1, R2 = 2. -/
theorem test_mul_2 :
    ran (start 0x0000001F 0x08000000 [(1, 0xFFFFFFFF), (2, 0x2)] []) 32 0xE0000291 (fun s t => t.reg 0 == 0xFFFFFFFE && t.cpsr == s.cpsr) = true := by decide

/-- V-MUL-3 (95 §3.6, UMULL): UMULL R0, R0, R2, R3 (RdHi = RdLo, MUL-regs: the high word wins). -/
theorem test_mul_3 :
    ran (start 0x0000001F 0x08000000 [(2, 0xFFFFFFFF), (3, 0x2)] []) 32 0xE0800392 (fun s t => t.reg 0 == 0x00000001 && t.cpsr == s.cpsr) = true := by decide

/-- V-MUL-4 (95 §3.6, SMULL): SMULL R0, R1, R2, R3 with 0x80000000 * 0x80000000. -/
theorem test_mul_4 :
    ran (start 0x0000001F 0x08000000 [(2, 0x80000000), (3, 0x80000000)] []) 32 0xE0C10392 (fun s t => t.reg 1 == 0x40000000 && t.cpsr == s.cpsr) = true := by decide

/-- V-MUL-5 (95 §3.6, UMULL): UMULLS R0, R1, R2, R3 with 0xFFFFFFFF * 0xFFFFFFFF (N from bit 63). -/
theorem test_mul_5 :
    ran (start 0x0000001F 0x08000000 [(2, 0xFFFFFFFF), (3, 0xFFFFFFFF)] []) 32 0xE0910392 (fun _ t => t.reg 0 == 0x00000001 && t.reg 1 == 0xFFFFFFFE && t.cpsr.toWord == 0x8000001F) = true := by decide

/-- V-MUL-6 (95 §3.6, MLA): MLAS R0, R1, R2, R3 wrapping to 0. -/
theorem test_mul_6 :
    ran (start 0x0000001F 0x08000000 [(1, 0xFFFFFFFF), (2, 0x1), (3, 0x1)] []) 32 0xE0303291 (fun _ t => t.cpsr.toWord == 0x4000001F) = true := by decide

/-- V-LS-1 (95 §3.7, LDR__imm__post): LDR R0, [R0], #4 (Rn = Rd: the loaded value wins). -/
theorem test_ls_1 :
    ran (start 0x0000001F 0x08000000 [(0, 0x3000000)] [(0x03000000, 4, 0x7)]) 32 0xE4900004 (fun s t => t.reg 0 == 0x00000007 && t.cpsr == s.cpsr) = true := by decide

/-- V-LS-2 (95 §3.7, STR__imm__pre): STR R0, [R0, #4]! (stores the value before writeback). -/
theorem test_ls_2 :
    ran (start 0x0000001F 0x08000000 [(0, 0x3000000)] []) 32 0xE5A00004 (fun s t => t.reg 0 == 0x03000004 && t.read32 0x03000004 == 0x03000000 && t.cpsr == s.cpsr) = true := by decide

/-- V-LS-3 (95 §3.7, STR__imm__pre): STR PC, [R1] (stores A + 12). -/
theorem test_ls_3 :
    ran (start 0x0000001F 0x08000100 [(1, 0x3000000)] []) 32 0xE581F000 (fun s t => t.read32 0x03000000 == 0x0800010C && t.cpsr == s.cpsr) = true := by decide

/-- V-LS-4 (95 §3.7, LDR__imm__pre): LDR PC, [R1] loading 0x08000201 (ARM: aligned to 0x08000200, T unchanged). -/
theorem test_ls_4 :
    ran (start 0x0000001F 0x08000000 [(1, 0x3000000)] [(0x03000000, 4, 0x8000201)]) 32 0xE591F000 (fun s t => t.pc == 0x08000200 && t.bubble == 2 && t.cpsr == s.cpsr) = true := by decide

/-- V-LS-5 (95 §3.7, LDRH): LDRH R0, [R1] at an odd address (rotated). -/
theorem test_ls_5 :
    ran (start 0x0000001F 0x08000000 [(1, 0x3000001)] [(0x03000000, 2, 0xBEEF)]) 32 0xE1D100B0 (fun s t => t.reg 0 == 0xEF0000BE && t.cpsr == s.cpsr) = true := by decide

/-- V-LS-6 (95 §3.7, LDRSH): LDRSH R0, [R1] at an odd address (signed byte). -/
theorem test_ls_6 :
    ran (start 0x0000001F 0x08000000 [(1, 0x3000001)] [(0x03000000, 2, 0xBEEF)]) 32 0xE1D100F0 (fun s t => t.reg 0 == 0xFFFFFFBE && t.cpsr == s.cpsr) = true := by decide

/-- V-LS-7 (95 §3.7, LDR__reg__pre): LDR R0, [R1, R2, LSL #2]. -/
theorem test_ls_7 :
    ran (start 0x0000001F 0x08000000 [(1, 0x3000000), (2, 0x3)] [(0x0300000C, 4, 0x55)]) 32 0xE7910102 (fun s t => t.reg 0 == 0x00000055 && t.cpsr == s.cpsr) = true := by decide

/-- V-LS-8 (95 §3.7, LDRH): LDRH R0, [R1], #2 (post-index always writes back). -/
theorem test_ls_8 :
    ran (start 0x0000001F 0x08000000 [(1, 0x3000000)] [(0x03000000, 2, 0x1234)]) 32 0xE0D100B2 (fun s t => t.reg 0 == 0x00001234 && t.reg 1 == 0x03000002 && t.cpsr == s.cpsr) = true := by decide

/-- V-LS-9 (95 §3.7, LDR__imm__pre): LDR R0, [R1, #-4] (U = 0). -/
theorem test_ls_9 :
    ran (start 0x0000001F 0x08000000 [(1, 0x3000004)] [(0x03000000, 4, 0xA5A5A5A5)]) 32 0xE5110004 (fun s t => t.reg 0 == 0xA5A5A5A5 && t.cpsr == s.cpsr) = true := by decide

/-- V-LS-10 (95 §3.7, LDM): LDMIA R0!, [] (empty list: loads PC, base + 0x40). -/
theorem test_ls_10 :
    ran (start 0x0000001F 0x08000000 [(0, 0x3000000)] [(0x03000000, 4, 0x8000100)]) 32 0xE8B00000 (fun s t => t.reg 0 == 0x03000040 && t.pc == 0x08000100 && t.bubble == 2 && t.cpsr == s.cpsr) = true := by decide

/-- V-LS-11 (95 §3.7, STM): STMIA R1!, [R0, R1] (base not lowest: stores the final value). -/
theorem test_ls_11 :
    ran (start 0x0000001F 0x08000000 [(0, 0x5), (1, 0x3000000)] []) 32 0xE8A10003 (fun s t => t.reg 1 == 0x03000008 && t.read32 0x03000000 == 0x00000005 && t.read32 0x03000004 == 0x03000008 && t.cpsr == s.cpsr) = true := by decide

/-- V-LS-12 (95 §3.7, STM): STMIA R0!, [R0, R1] (base lowest: stores the original value). -/
theorem test_ls_12 :
    ran (start 0x0000001F 0x08000000 [(0, 0x3000000), (1, 0x9)] []) 32 0xE8A00003 (fun s t => t.reg 0 == 0x03000008 && t.read32 0x03000000 == 0x03000000 && t.read32 0x03000004 == 0x00000009 && t.cpsr == s.cpsr) = true := by decide

/-- V-LS-13 (95 §3.7, LDM): LDMIA R0, [R13]^ in IRQ mode (User-bank R13 written). -/
theorem test_ls_13 :
    ran (start 0x00000092 0x08000000 [(0, 0x3000000)] [(0x03000000, 4, 0x1234)]) 32 0xE8D02000 (fun s t => t.regIn .user 13 == 0x00001234 && t.cpsr == s.cpsr) = true := by decide

/-- V-LS-16 (95 §3.7, SWP): SWP R0, R0, [R1] (Rd = Rm). -/
theorem test_ls_16 :
    ran (start 0x0000001F 0x08000000 [(0, 0x11223344), (1, 0x3000000)] [(0x03000000, 4, 0xAABBCCDD)]) 32 0xE1010090 (fun s t => t.reg 0 == 0xAABBCCDD && t.read32 0x03000000 == 0x11223344 && t.cpsr == s.cpsr) = true := by decide

/-- V-LS-19 (95 §3.7, LDRB__imm__pre): LDRB R0, [R1, #0xFFF] (largest immediate offset). -/
theorem test_ls_19 :
    ran (start 0x0000001F 0x08000000 [(1, 0x3000000)] [(0x03000FFF, 1, 0x42)]) 32 0xE5D10FFF (fun s t => t.reg 0 == 0x00000042 && t.cpsr == s.cpsr) = true := by decide

/-- V-EXC-1 (95 §3.8, SWI): SWI in IRQ mode (SPSR_svc gets the IRQ-mode CPSR). -/
theorem test_exc_1 :
    ran (start 0x00000012 0x00000200 [] []) 32 0xEF000000 (fun _ t => t.reg 13 == 0x03007FE0 && t.reg 14 == 0x00000204 && t.cpsr.toWord == 0x00000093 && t.spsr.get? .svc == some (word 0x00000012) && t.pc == 0x00000008 && t.bubble == 2) = true := by decide

/-- V-EXC-2 (95 §3.8, UNDEF_U1): U1 word 0xE0400090 (unallocated multiply space). -/
theorem test_exc_2 :
    ran (start 0x0000001F 0x08000000 [] []) 32 0xE0400090 (fun _ t => t.reg 13 == 0x00000000 && t.reg 14 == 0x08000004 && t.cpsr.toWord == 0x0000009B && t.spsr.get? .und == some (word 0x0000001F) && t.pc == 0x00000004 && t.bubble == 2) = true := by decide

/-- V-EXC-3 (95 §3.8, UNDEF_U2): U2 word 0xE1C000D0 (ARMv5 LDRD space). -/
theorem test_exc_3 :
    ran (start 0x0000001F 0x08000000 [] []) 32 0xE1C000D0 (fun _ t => t.reg 13 == 0x00000000 && t.reg 14 == 0x08000004 && t.cpsr.toWord == 0x0000009B && t.spsr.get? .und == some (word 0x0000001F) && t.pc == 0x00000004 && t.bubble == 2) = true := by decide

/-- V-EXC-4 (95 §3.8, UNDEF_U3): U3 word 0xE1600010 (ARMv5 CLZ space). -/
theorem test_exc_4 :
    ran (start 0x0000001F 0x08000000 [] []) 32 0xE1600010 (fun _ t => t.reg 13 == 0x00000000 && t.reg 14 == 0x08000004 && t.cpsr.toWord == 0x0000009B && t.spsr.get? .und == some (word 0x0000001F) && t.pc == 0x00000004 && t.bubble == 2) = true := by decide

/-- V-EXC-5 (95 §3.8, UNDEF_U4): U4 word 0xE3000000 (TST immediate with S = 0). -/
theorem test_exc_5 :
    ran (start 0x0000001F 0x08000000 [] []) 32 0xE3000000 (fun _ t => t.reg 13 == 0x00000000 && t.reg 14 == 0x08000004 && t.cpsr.toWord == 0x0000009B && t.spsr.get? .und == some (word 0x0000001F) && t.pc == 0x00000004 && t.bubble == 2) = true := by decide

/-- V-EXC-6 (95 §3.8, UNDEF_U5): Undefined with a failed condition: 0x06000010 with Z = 0 (no trap). -/
theorem test_exc_6 :
    ran (start 0x0000001F 0x08000000 [] []) 32 0x06000010 (fun s t => t.regs == s.regs && t.cpsr == s.cpsr && t.mem == s.mem) = true := by decide

/-- V-EXC-7 (95 §3.8, T_SWI): SWI from THUMB state in User mode. -/
theorem test_exc_7 :
    ran (start 0x60000030 0x08000400 [] []) 16 0xDF00 (fun _ t => t.reg 13 == 0x03007FE0 && t.reg 14 == 0x08000402 && t.cpsr.toWord == 0x60000093 && t.spsr.get? .svc == some (word 0x60000030) && t.pc == 0x00000008 && t.bubble == 2) = true := by decide

/-- V-TALU-1 (95 §3.9, T_NEG): NEG R0, R1 with R1 = 1. -/
theorem test_talu_1 :
    ran (start 0x0000003F 0x08000000 [(1, 0x1)] []) 16 0x4248 (fun _ t => t.reg 0 == 0xFFFFFFFF && t.cpsr.toWord == 0x8000003F) = true := by decide

/-- V-TALU-2 (95 §3.9, T_NEG): NEG R0, R1 with R1 = 0 (C = 1). -/
theorem test_talu_2 :
    ran (start 0x0000003F 0x08000000 [(1, 0x0)] []) 16 0x4248 (fun _ t => t.cpsr.toWord == 0x6000003F) = true := by decide

/-- V-TALU-4 (95 §3.9, T_LSL): LSL R0, R1 (register) with R1 = 32. -/
theorem test_talu_4 :
    ran (start 0x0000003F 0x08000000 [(0, 0x1), (1, 0x20)] []) 16 0x4088 (fun _ t => t.reg 0 == 0x00000000 && t.cpsr.toWord == 0x6000003F) = true := by decide

/-- V-TALU-5 (95 §3.9, T_LSR): LSR R0, R1 (register) with R1 = 0 (C unchanged). -/
theorem test_talu_5 :
    ran (start 0x2000003F 0x08000000 [(0, 0x6), (1, 0x0)] []) 16 0x40C8 (fun s t => t.regs == s.regs && t.cpsr == s.cpsr && t.mem == s.mem) = true := by decide

/-- V-TALU-6 (95 §3.9, T_ROR): ROR R0, R1 with R1 = 4. -/
theorem test_talu_6 :
    ran (start 0x0000003F 0x08000000 [(0, 0xF), (1, 0x4)] []) 16 0x41C8 (fun _ t => t.reg 0 == 0xF0000000 && t.cpsr.toWord == 0xA000003F) = true := by decide

/-- V-TALU-7 (95 §3.9, T_ASR): ASR R0, R1 with R1 = 40. -/
theorem test_talu_7 :
    ran (start 0x0000003F 0x08000000 [(0, 0x80000000), (1, 0x28)] []) 16 0x4108 (fun _ t => t.reg 0 == 0xFFFFFFFF && t.cpsr.toWord == 0xA000003F) = true := by decide

/-- V-TALU-8 (95 §3.9, T_ADC): ADC R0, R1 with C = 1. -/
theorem test_talu_8 :
    ran (start 0x2000003F 0x08000000 [(0, 0x1), (1, 0x1)] []) 16 0x4148 (fun _ t => t.reg 0 == 0x00000003 && t.cpsr.toWord == 0x0000003F) = true := by decide

/-- V-TALU-9 (95 §3.9, T_SBC): SBC R0, R1 with C = 0. -/
theorem test_talu_9 :
    ran (start 0x0000003F 0x08000000 [(0, 0x5), (1, 0x3)] []) 16 0x4188 (fun _ t => t.reg 0 == 0x00000001 && t.cpsr.toWord == 0x2000003F) = true := by decide

/-- V-TALU-10 (95 §3.9, T_TST): TST R0, R1 with disjoint bits. -/
theorem test_talu_10 :
    ran (start 0x0000003F 0x08000000 [(0, 0xF0), (1, 0xF)] []) 16 0x4208 (fun _ t => t.cpsr.toWord == 0x4000003F) = true := by decide

/-- V-TALU-11 (95 §3.9, T_CMN): CMN R0, R1 with R0 = 0xFFFFFFFF, R1 = 1. -/
theorem test_talu_11 :
    ran (start 0x0000003F 0x08000000 [(0, 0xFFFFFFFF), (1, 0x1)] []) 16 0x42C8 (fun _ t => t.cpsr.toWord == 0x6000003F) = true := by decide

/-- V-TALU-12 (95 §3.9, T_MVN): MVN R0, R1 with R1 = 0. -/
theorem test_talu_12 :
    ran (start 0x0000003F 0x08000000 [(1, 0x0)] []) 16 0x43C8 (fun _ t => t.reg 0 == 0xFFFFFFFF && t.cpsr.toWord == 0x8000003F) = true := by decide

/-- V-TALU-13 (95 §3.9, T_LSL__imm): LSL R0, R1, #0 (carry unchanged). -/
theorem test_talu_13 :
    ran (start 0x2000003F 0x08000000 [(1, 0x80000000)] []) 16 0x0008 (fun _ t => t.reg 0 == 0x80000000 && t.cpsr.toWord == 0xA000003F) = true := by decide

/-- V-TALU-14 (95 §3.9, T_ASR__imm): ASR R0, R1, #0 (means #32). -/
theorem test_talu_14 :
    ran (start 0x0000003F 0x08000000 [(1, 0x80000000)] []) 16 0x1008 (fun _ t => t.reg 0 == 0xFFFFFFFF && t.cpsr.toWord == 0xA000003F) = true := by decide

/-- V-TALU-15 (95 §3.9, T_MOV__hi): MOV R0, R1 (format 5 with H1 = H2 = 0, T-hireg-low: executes, no flags). -/
theorem test_talu_15 :
    ran (start 0x0000003F 0x08000000 [(1, 0x0)] []) 16 0x4608 (fun s t => t.regs == s.regs && t.cpsr == s.cpsr && t.mem == s.mem) = true := by decide

/-- V-TALU-16 (95 §3.9, T_ADD__hi): ADD PC, R0 (format 5, Rd = PC: a branch). -/
theorem test_talu_16 :
    ran (start 0x0000003F 0x08000100 [(0, 0x10)] []) 16 0x4487 (fun s t => t.pc == 0x08000114 && t.bubble == 2 && t.cpsr == s.cpsr) = true := by decide

/-- V-TALU-17 (95 §3.9, T_BX): BX PC at a word-aligned A (to ARM at A + 4). -/
theorem test_talu_17 :
    ran (start 0x0000003F 0x08000100 [] []) 16 0x4778 (fun _ t => t.cpsr.toWord == 0x0000001F && t.pc == 0x08000104 && t.bubble == 2) = true := by decide

/-- V-TALU-18 (95 §3.9, T_BX): BX PC at A = 4k + 2 (ARM target aligned down, BX-arm-misaligned). -/
theorem test_talu_18 :
    ran (start 0x0000003F 0x08000102 [] []) 16 0x4778 (fun _ t => t.cpsr.toWord == 0x0000001F && t.pc == 0x08000104 && t.bubble == 2) = true := by decide

/-- V-TALU-19 (95 §3.9, T_MUL): MUL R0, R1 with R0 = 0x10000, R1 = 0x10000 (product wraps to 0). -/
theorem test_talu_19 :
    ran (start 0x2000003F 0x08000000 [(0, 0x10000), (1, 0x10000)] []) 16 0x4348 (fun _ t => t.reg 0 == 0x00000000 && t.cpsr.toWord == 0x6000003F) = true := by decide

/-- V-TALU-20 (95 §3.9, T_CMP__hi): CMP R8, R9 (format 5, high registers). -/
theorem test_talu_20 :
    ran (start 0x0000003F 0x08000000 [(8, 0x1), (9, 0x2)] []) 16 0x45C8 (fun _ t => t.cpsr.toWord == 0x8000003F) = true := by decide

/-- V-TLS-1 (95 §3.10, T_LDRH__imm): LDRH R0, [R1, #2] with R1 odd (rotated). -/
theorem test_tls_1 :
    ran (start 0x0000003F 0x08000000 [(1, 0x3000001)] [(0x03000002, 2, 0xBEEF)]) 16 0x8848 (fun s t => t.reg 0 == 0xEF0000BE && t.cpsr == s.cpsr) = true := by decide

/-- V-TLS-2 (95 §3.10, T_LDR__imm): LDR R0, [R1, #4] with R1 = 0x03000001 (rotated by 8). -/
theorem test_tls_2 :
    ran (start 0x0000003F 0x08000000 [(1, 0x3000001)] [(0x03000004, 4, 0x44332211)]) 16 0x6848 (fun s t => t.reg 0 == 0x11443322 && t.cpsr == s.cpsr) = true := by decide

/-- V-TLS-3 (95 §3.10, T_PUSH): PUSH [] (empty list: stores A + 6 at SP - 0x40). -/
theorem test_tls_3 :
    ran (start 0x0000003F 0x08000100 [(13, 0x3007F00)] []) 16 0xB400 (fun s t => t.reg 13 == 0x03007EC0 && t.read32 0x03007EC0 == 0x08000106 && t.cpsr == s.cpsr) = true := by decide

/-- V-TLS-4 (95 §3.10, T_POP): POP [] (empty list: loads PC, SP + 0x40). -/
theorem test_tls_4 :
    ran (start 0x0000003F 0x08000000 [(13, 0x3007F00)] [(0x03007F00, 4, 0x8000201)]) 16 0xBC00 (fun s t => t.reg 13 == 0x03007F40 && t.pc == 0x08000200 && t.bubble == 2 && t.cpsr == s.cpsr) = true := by decide

/-- V-TLS-5 (95 §3.10, T_STMIA): STMIA R1!, [R0, R1] (base not lowest). -/
theorem test_tls_5 :
    ran (start 0x0000003F 0x08000000 [(0, 0x5), (1, 0x3000000)] []) 16 0xC103 (fun s t => t.reg 1 == 0x03000008 && t.read32 0x03000000 == 0x00000005 && t.read32 0x03000004 == 0x03000008 && t.cpsr == s.cpsr) = true := by decide

/-- V-TLS-6 (95 §3.10, T_LDMIA): LDMIA R0!, [R0, R1] (base in list: loaded value wins). -/
theorem test_tls_6 :
    ran (start 0x0000003F 0x08000000 [(0, 0x3000000)] [(0x03000000, 4, 0x11), (0x03000004, 4, 0x22)]) 16 0xC803 (fun s t => t.reg 0 == 0x00000011 && t.reg 1 == 0x00000022 && t.cpsr == s.cpsr) = true := by decide

/-- V-TLS-7 (95 §3.10, T_LDR__PC-rel): LDR R0, [PC, #0] at A = 4k + 2 (PC word-aligned). -/
theorem test_tls_7 :
    ran (start 0x0000003F 0x08000102 [] [(0x08000104, 4, 0xCAFE)]) 16 0x4800 (fun s t => t.reg 0 == 0x0000CAFE && t.cpsr == s.cpsr) = true := by decide

/-- V-TLS-8 (95 §3.10, T_STRB__imm): STRB R0, [R1, #31] (largest byte offset). -/
theorem test_tls_8 :
    ran (start 0x0000003F 0x08000000 [(0, 0xAB), (1, 0x3000000)] []) 16 0x77C8 (fun s t => t.read8 0x0300001F == 0xAB && t.cpsr == s.cpsr) = true := by decide

/-- V-TLS-9 (95 §3.10, T_LDR__SP-rel): LDR R0, [SP, #1020] (largest SP offset). -/
theorem test_tls_9 :
    ran (start 0x0000003F 0x08000000 [(13, 0x3007000)] [(0x030073FC, 4, 0x99)]) 16 0x98FF (fun s t => t.reg 0 == 0x00000099 && t.cpsr == s.cpsr) = true := by decide

/-- V-TLS-10 (95 §3.10, T_PUSH): PUSH [R0-R7, LR]. -/
theorem test_tls_10 :
    ran (start 0x0000003F 0x08000000 [(0, 0x0), (1, 0x1), (2, 0x2), (3, 0x3), (4, 0x4), (5, 0x5), (6, 0x6), (7, 0x7), (14, 0xE), (13, 0x3007F00)] []) 16 0xB5FF (fun s t => t.reg 13 == 0x03007EDC && t.read32 0x03007EDC == 0x00000000 && t.read32 0x03007EFC == 0x0000000E && t.cpsr == s.cpsr) = true := by decide

/-- V-TBR-1 (95 §3.11, T_BEQ): BEQ with the most negative offset (-256), Z = 1. -/
theorem test_tbr_1 :
    ran (start 0x4000003F 0x08000100 [] []) 16 0xD080 (fun s t => t.pc == 0x08000004 && t.bubble == 2 && t.cpsr == s.cpsr) = true := by decide

/-- V-TBR-2 (95 §3.11, T_BNE): BNE with Z = 1 (not taken). -/
theorem test_tbr_2 :
    ran (start 0x4000003F 0x08000100 [] []) 16 0xD1FE (fun s t => t.regs == s.regs && t.cpsr == s.cpsr && t.mem == s.mem) = true := by decide

/-- V-TBR-3 (95 §3.11, T_B): B with the most negative offset (-2048). -/
theorem test_tbr_3 :
    ran (start 0x0000003F 0x08001000 [] []) 16 0xE400 (fun s t => t.pc == 0x08000804 && t.bubble == 2 && t.cpsr == s.cpsr) = true := by decide

/-- V-TBR-4 (95 §3.11, T_BL__prefix): BL prefix with offset 0x7FF (negative high part). -/
theorem test_tbr_4 :
    ran (start 0x0000003F 0x08002000 [] []) 16 0xF7FF (fun s t => t.reg 14 == 0x08001004 && t.cpsr == s.cpsr) = true := by decide

/-- V-TBR-5 (95 §3.11, T_BL__suffix): BL suffix with offset 0x7FE after V-TBR-4 (LR = 0x08001004): branch to 0x08002000. -/
theorem test_tbr_5 :
    ran (start 0x0000003F 0x08002002 [(14, 0x8001004)] []) 16 0xFFFE (fun s t => t.reg 14 == 0x08002005 && t.pc == 0x08002000 && t.bubble == 2 && t.cpsr == s.cpsr) = true := by decide

/-- V-TBR-6 (95 §3.11, T_BGT): BGT with Z = 0, N = V = 0 (taken). -/
theorem test_tbr_6 :
    ran (start 0x0000003F 0x08000100 [] []) 16 0xDC01 (fun s t => t.pc == 0x08000106 && t.bubble == 2 && t.cpsr == s.cpsr) = true := by decide

/-- V-TBR-7 (95 §3.11, T_BLE): BLE with Z = 0, N = 1, V = 0 (taken). -/
theorem test_tbr_7 :
    ran (start 0x8000003F 0x08000100 [] []) 16 0xDD01 (fun s t => t.pc == 0x08000106 && t.bubble == 2 && t.cpsr == s.cpsr) = true := by decide

/-! ## One step: the examples in the rules -/

/-- The example of R230: ANDS R0, R1, R2. -/
theorem test_r230 :
    ran (start 0x0000001F 0x08000000 [(1, 0xF0F0F0F0), (2, 0x0FF00FF0)] []) 32 0xE0110002 (fun _ t => t.reg 0 == 0x00F000F0 && t.cpsr.toWord == 0x0000001F) = true := by decide

/-- The example of R231: EORS R0, R1, R1. -/
theorem test_r231 :
    ran (start 0x0000001F 0x08000000 [(1, 0x12345678)] []) 32 0xE0310001 (fun _ t => t.reg 0 == 0 && t.cpsr.toWord == 0x4000001F) = true := by decide

/-- The example of R232: SUBS R0, R1, R2. -/
theorem test_r232 :
    ran (start 0x0000001F 0x08000000 [(1, 5), (2, 7)] []) 32 0xE0510002 (fun _ t => t.reg 0 == 0xFFFFFFFE && t.cpsr.toWord == 0x8000001F) = true := by decide

/-- The example of R234: ADDS R0, R1, R2. -/
theorem test_r234 :
    ran (start 0x0000001F 0x08000000 [(1, 0x7FFFFFFF), (2, 1)] []) 32 0xE0910002 (fun _ t => t.reg 0 == 0x80000000 && t.cpsr.toWord == 0x9000001F) = true := by decide

/-- The example of R235: ADCS R0, R1, R2. -/
theorem test_r235 :
    ran (start 0x2000001F 0x08000000 [(1, 0xFFFFFFFF), (2, 0)] []) 32 0xE0B10002 (fun _ t => t.reg 0 == 0 && t.cpsr.toWord == 0x6000001F) = true := by decide

/-- The example of R236: SBCS R0, R1, R2. -/
theorem test_r236 :
    ran (start 0x0000001F 0x08000000 [(1, 5), (2, 3)] []) 32 0xE0D10002 (fun _ t => t.reg 0 == 1 && t.cpsr.toWord == 0x2000001F) = true := by decide

/-- The example of R237: RSCS R0, R1, R2. -/
theorem test_r237 :
    ran (start 0x2000001F 0x08000000 [(1, 3), (2, 5)] []) 32 0xE0F10002 (fun _ t => t.reg 0 == 2 && t.cpsr.toWord == 0x2000001F) = true := by decide

/-- The example of R238: TST R1, #0x80000000. -/
theorem test_r238 :
    ran (start 0x0000001F 0x08000000 [(1, 0x80000000)] []) 32 0xE3110102 (fun s t => t.cpsr.toWord == 0xA000001F && t.regs == s.regs) = true := by decide

/-- The example of R239: TEQ R1, R2. -/
theorem test_r239 :
    ran (start 0x0000001F 0x08000000 [(1, 0x1234), (2, 0x1234)] []) 32 0xE1310002 (fun _ t => t.cpsr.toWord == 0x4000001F) = true := by decide

/-- The example of R240: CMP R1, #1. -/
theorem test_r240 :
    ran (start 0x0000001F 0x08000000 [] []) 32 0xE3510001 (fun s t => t.cpsr.toWord == 0x8000001F && t.regs == s.regs) = true := by decide

/-- The example of R241: CMN R1, R2. -/
theorem test_r241 :
    ran (start 0x0000001F 0x08000000 [(1, 0x80000000), (2, 0x80000000)] []) 32 0xE1710002 (fun _ t => t.cpsr.toWord == 0x7000001F) = true := by decide

/-- The example of R242: ORR R0, R1, R2, LSL #4. -/
theorem test_r242 :
    ran (start 0x0000001F 0x08000000 [(1, 0xF), (2, 0xF)] []) 32 0xE1810202 (fun _ t => t.reg 0 == 0xFF && t.cpsr.toWord == 0x0000001F) = true := by decide

/-- The example of R244: BIC R0, R1, #0xFF. -/
theorem test_r244 :
    ran (start 0x0000001F 0x08000000 [(1, 0x12345678)] []) 32 0xE3C100FF (fun _ t => t.reg 0 == 0x12345600) = true := by decide

/-- The example of R245: MVN R0, #0. -/
theorem test_r245 :
    ran (start 0x0000001F 0x08000000 [] []) 32 0xE3E00000 (fun _ t => t.reg 0 == 0xFFFFFFFF) = true := by decide

/-- The example of R280: MRS R0, CPSR. -/
theorem test_r280 :
    ran (start 0x8000001F 0x08000000 [] []) 32 0xE10F0000 (fun _ t => t.reg 0 == 0x8000001F) = true := by decide

/-- The example of R283: MSR CPSR_f, #0xF0000000 in User mode. -/
theorem test_r283 :
    ran (start 0x00000010 0x08000000 [] []) 32 0xE328F4F0 (fun _ t => t.cpsr.toWord == 0xF0000010) = true := by decide

/-- The example of R294: UMLAL R0, R1, R2, R3. -/
theorem test_r294 :
    ran (start 0x0000001F 0x08000000 [(0, 2), (1, 0), (2, 0xFFFFFFFF), (3, 2)] []) 32 0xE0A10392 (fun _ t => t.reg 0 == 0 && t.reg 1 == 2) = true := by decide

/-- The example of R296: SMLALS R0, R1, R2, R3. -/
theorem test_r296 :
    ran (start 0x0000001F 0x08000000 [(0, 2), (1, 0), (2, 0xFFFFFFFF), (3, 2)] []) 32 0xE0F10392 (fun _ t => t.reg 0 == 0 && t.reg 1 == 0 && t.cpsr.toWord == 0x4000001F) = true := by decide

/-- The example of R323: STR R0, [R1], #4. -/
theorem test_r323 :
    ran (start 0x0000001F 0x08000000 [(0, 0x11223344), (1, 0x03000000)] []) 32 0xE4810004 (fun _ t => t.read8 0x03000000 == 0x44 && t.read8 0x03000003 == 0x11 && t.reg 1 == 0x03000004) = true := by decide

/-- The example of R324: LDRB R0, [R1, -R2]. -/
theorem test_r324 :
    ran (start 0x0000001F 0x08000000 [(1, 0x03000010), (2, 1)] [(0x0300000F, 1, 0x9A)]) 32 0xE7510002 (fun _ t => t.reg 0 == 0x9A) = true := by decide

/-- The example of R325: STRB R0, [R1, #1]!. -/
theorem test_r325 :
    ran (start 0x0000001F 0x08000000 [(0, 0x12345678), (1, 0x03000000)] []) 32 0xE5E10001 (fun _ t => t.read32 0x03000000 == 0x7800 && t.reg 1 == 0x03000001) = true := by decide

/-- The example of R326: LDRT R0, [R1], #4. -/
theorem test_r326 :
    ran (start 0x0000001F 0x08000000 [(1, 0x03000000)] [(0x03000000, 4, 5)]) 32 0xE4B10004 (fun _ t => t.reg 0 == 5 && t.reg 1 == 0x03000004) = true := by decide

/-- The example of R327: STRT R0, [R1], #4. -/
theorem test_r327 :
    ran (start 0x0000001F 0x08000000 [(0, 7), (1, 0x03000000)] []) 32 0xE4A10004 (fun _ t => t.read32 0x03000000 == 7 && t.reg 1 == 0x03000004) = true := by decide

/-- The example of R328: LDRBT R0, [R1], #1. -/
theorem test_r328 :
    ran (start 0x0000001F 0x08000000 [(1, 0x03000000)] [(0x03000000, 1, 0xFF)]) 32 0xE4F10001 (fun _ t => t.reg 0 == 0xFF && t.reg 1 == 0x03000001) = true := by decide

/-- The example of R329: STRBT R0, [R1], #1. -/
theorem test_r329 :
    ran (start 0x0000001F 0x08000000 [(0, 0x1FF), (1, 0x03000000)] []) 32 0xE4E10001 (fun _ t => t.read32 0x03000000 == 0xFF && t.reg 1 == 0x03000001) = true := by decide

/-- The example of R332: STRH R0, [R1, #2]. -/
theorem test_r332 :
    ran (start 0x0000001F 0x08000000 [(0, 0x12345678), (1, 0x03000000)] []) 32 0xE1C100B2 (fun _ t => t.read32 0x03000000 == 0x56780000) = true := by decide

/-- The example of R333: LDRSB R0, [R1]. -/
theorem test_r333 :
    ran (start 0x0000001F 0x08000000 [(1, 0x03000000)] [(0x03000000, 1, 0x80)]) 32 0xE1D100D0 (fun _ t => t.reg 0 == 0xFFFFFF80) = true := by decide

/-- The example of R351: SWPB R0, R1, [R2]. -/
theorem test_r351 :
    ran (start 0x0000001F 0x08000000 [(1, 0xAB), (2, 0x03000001)] [(0x03000001, 1, 0xCD)]) 32 0xE1420091 (fun _ t => t.reg 0 == 0xCD && t.read32 0x03000000 == 0xAB00) = true := by decide

/-- The example of R383: CDP p0 takes the Undefined trap. -/
theorem test_r383 :
    ran (start 0x0000001F 0x08000010 [(0, 0x03000000)] []) 32 0xEE000000 (fun _ t => t.pc == 4 && t.cpsr.toWord == 0x9B && t.reg 14 == 0x08000014 && t.reg 0 == 0x03000000) = true := by decide

/-- The example of R384: LDC p0 takes the Undefined trap. -/
theorem test_r384 :
    ran (start 0x0000001F 0x08000010 [(0, 0x03000000)] []) 32 0xED900000 (fun _ t => t.pc == 4 && t.cpsr.toWord == 0x9B && t.reg 14 == 0x08000014 && t.reg 0 == 0x03000000) = true := by decide

/-- The example of R386: STC p0 takes the Undefined trap. -/
theorem test_r386 :
    ran (start 0x0000001F 0x08000010 [(0, 0x03000000)] []) 32 0xED800000 (fun _ t => t.pc == 4 && t.cpsr.toWord == 0x9B && t.reg 14 == 0x08000014 && t.reg 0 == 0x03000000) = true := by decide

/-- The example of R387: MCR p15 takes the Undefined trap. -/
theorem test_r387 :
    ran (start 0x0000001F 0x08000010 [(0, 0x03000000)] []) 32 0xEE070F9A (fun _ t => t.pc == 4 && t.cpsr.toWord == 0x9B && t.reg 14 == 0x08000014 && t.reg 0 == 0x03000000) = true := by decide

/-- The example of R388: MRC p15 takes the Undefined trap. -/
theorem test_r388 :
    ran (start 0x0000001F 0x08000010 [(0, 0x03000000)] []) 32 0xEE100F10 (fun _ t => t.pc == 4 && t.cpsr.toWord == 0x9B && t.reg 14 == 0x08000014 && t.reg 0 == 0x03000000) = true := by decide

/-- The example of R400: LSL R0, R1, #2. -/
theorem test_r400 :
    ran (start 0x0000003F 0x08000000 [(1, 0x40000001)] []) 16 0x0088 (fun _ t => t.reg 0 == 4 && t.cpsr.toWord == 0x2000003F) = true := by decide

/-- The example of R401: LSR R0, R1, #32. -/
theorem test_r401 :
    ran (start 0x0000003F 0x08000000 [(0, 7), (1, 0x80000000)] []) 16 0x0808 (fun _ t => t.reg 0 == 0 && t.cpsr.toWord == 0x6000003F) = true := by decide

/-- The example of R402: ASR R0, R1, #1. -/
theorem test_r402 :
    ran (start 0x0000003F 0x08000000 [(1, 0x80000000)] []) 16 0x1048 (fun _ t => t.reg 0 == 0xC0000000 && t.cpsr.toWord == 0x8000003F) = true := by decide

/-- The example of R403: ADD R0, R1, R2. -/
theorem test_r403 :
    ran (start 0x0000003F 0x08000000 [(1, 0x7FFFFFFF), (2, 1)] []) 16 0x1888 (fun _ t => t.reg 0 == 0x80000000 && t.cpsr.toWord == 0x9000003F) = true := by decide

/-- The example of R404: SUB R0, R1, R2. -/
theorem test_r404 :
    ran (start 0x0000003F 0x08000000 [(1, 5), (2, 7)] []) 16 0x1A88 (fun _ t => t.reg 0 == 0xFFFFFFFE && t.cpsr.toWord == 0x8000003F) = true := by decide

/-- The example of R405: ADD R0, R1, #1. -/
theorem test_r405 :
    ran (start 0x0000003F 0x08000000 [(0, 7), (1, 0xFFFFFFFF)] []) 16 0x1C48 (fun _ t => t.reg 0 == 0 && t.cpsr.toWord == 0x6000003F) = true := by decide

/-- The example of R406: SUB R0, R1, #1. -/
theorem test_r406 :
    ran (start 0x0000003F 0x08000000 [(1, 0)] []) 16 0x1E48 (fun _ t => t.reg 0 == 0xFFFFFFFF && t.cpsr.toWord == 0x8000003F) = true := by decide

/-- The example of R407: MOV R0, #0x80. -/
theorem test_r407 :
    ran (start 0x0000003F 0x08000000 [] []) 16 0x2080 (fun _ t => t.reg 0 == 0x80 && t.cpsr.toWord == 0x0000003F) = true := by decide

/-- The example of R408: CMP R0, #1. -/
theorem test_r408 :
    ran (start 0x0000003F 0x08000000 [] []) 16 0x2801 (fun _ t => t.cpsr.toWord == 0x8000003F) = true := by decide

/-- The example of R409: ADD R0, #0xFF. -/
theorem test_r409 :
    ran (start 0x0000003F 0x08000000 [(0, 0xFFFFFF01)] []) 16 0x30FF (fun _ t => t.reg 0 == 0 && t.cpsr.toWord == 0x6000003F) = true := by decide

/-- The example of R410: SUB R0, #1. -/
theorem test_r410 :
    ran (start 0x0000003F 0x08000000 [(0, 0x80000000)] []) 16 0x3801 (fun _ t => t.reg 0 == 0x7FFFFFFF && t.cpsr.toWord == 0x3000003F) = true := by decide

/-- The example of R411: AND R0, R1. -/
theorem test_r411 :
    ran (start 0x0000003F 0x08000000 [(0, 0xF0), (1, 0x3C)] []) 16 0x4008 (fun _ t => t.reg 0 == 0x30 && t.cpsr.toWord == 0x0000003F) = true := by decide

/-- The example of R412: EOR R0, R1. -/
theorem test_r412 :
    ran (start 0x0000003F 0x08000000 [(0, 0xFF), (1, 0xF)] []) 16 0x4048 (fun _ t => t.reg 0 == 0xF0) = true := by decide

/-- The example of R421: CMP R0, R1. -/
theorem test_r421 :
    ran (start 0x0000003F 0x08000000 [(0, 3), (1, 3)] []) 16 0x4288 (fun _ t => t.cpsr.toWord == 0x6000003F) = true := by decide

/-- The example of R423: ORR R0, R1. -/
theorem test_r423 :
    ran (start 0x0000003F 0x08000000 [(0, 0xF0), (1, 0xF)] []) 16 0x4308 (fun _ t => t.reg 0 == 0xFF) = true := by decide

/-- The example of R425: BIC R0, R1. -/
theorem test_r425 :
    ran (start 0x0000003F 0x08000000 [(0, 0xFF), (1, 0xF)] []) 16 0x4388 (fun _ t => t.reg 0 == 0xF0) = true := by decide

/-- The example of R430: ADD R0, R8. -/
theorem test_r430 :
    ran (start 0x0000003F 0x08000000 [(0, 1), (8, 0x10)] []) 16 0x4440 (fun _ t => t.reg 0 == 0x11 && t.cpsr.toWord == 0x0000003F) = true := by decide

/-- The example of R432: MOV PC, LR. -/
theorem test_r432 :
    ran (start 0x0000003F 0x08000000 [(14, 0x08000201)] []) 16 0x46F7 (fun s t => t.pc == 0x08000200 && t.cpsr == s.cpsr && t.bubble == 2) = true := by decide

/-- The example of R435: ADD R0, PC, #8 (PC word-aligned). -/
theorem test_r435 :
    ran (start 0x0000003F 0x08000102 [] []) 16 0xA002 (fun _ t => t.reg 0 == 0x0800010C) = true := by decide

/-- The example of R436: ADD R0, SP, #8. -/
theorem test_r436 :
    ran (start 0x0000003F 0x08000000 [(13, 0x03007F00)] []) 16 0xA802 (fun _ t => t.reg 0 == 0x03007F08) = true := by decide

/-- The example of R437: ADD SP, #16. -/
theorem test_r437 :
    ran (start 0x0000003F 0x08000000 [(13, 0x03007F00)] []) 16 0xB004 (fun _ t => t.reg 13 == 0x03007F10) = true := by decide

/-- The example of R438: SUB SP, #16. -/
theorem test_r438 :
    ran (start 0x0000003F 0x08000000 [(13, 0x03007F00)] []) 16 0xB084 (fun _ t => t.reg 13 == 0x03007EF0) = true := by decide

/-- The example of R462: STR R0, [R1, R2]. -/
theorem test_r462 :
    ran (start 0x0000003F 0x08000000 [(0, 0xCAFEBABE), (1, 0x03000000), (2, 8)] []) 16 0x5088 (fun _ t => t.read32 0x03000008 == 0xCAFEBABE) = true := by decide

/-- The example of R463: STRB R0, [R1, R2]. -/
theorem test_r463 :
    ran (start 0x0000003F 0x08000000 [(0, 0x1234), (1, 0x03000000), (2, 3)] []) 16 0x5488 (fun _ t => t.read32 0x03000000 == 0x34000000) = true := by decide

/-- The example of R464: LDR R0, [R1, R2], rotated. -/
theorem test_r464 :
    ran (start 0x0000003F 0x08000000 [(1, 0x03000000), (2, 2)] [(0x03000000, 4, 0x44332211)]) 16 0x5888 (fun _ t => t.reg 0 == 0x22114433) = true := by decide

/-- The example of R465: LDRB R0, [R1, R2]. -/
theorem test_r465 :
    ran (start 0x0000003F 0x08000000 [(1, 0x03000000), (2, 5)] [(0x03000005, 1, 0xAB)]) 16 0x5C88 (fun _ t => t.reg 0 == 0xAB) = true := by decide

/-- The example of R466: STRH R0, [R1, R2]. -/
theorem test_r466 :
    ran (start 0x0000003F 0x08000000 [(0, 0x12345678), (1, 0x03000000), (2, 2)] []) 16 0x5288 (fun _ t => t.read32 0x03000000 == 0x56780000) = true := by decide

/-- The example of R467: LDSB R0, [R1, R2]. -/
theorem test_r467 :
    ran (start 0x0000003F 0x08000000 [(1, 0x03000000), (2, 1)] [(0x03000001, 1, 0x80)]) 16 0x5688 (fun _ t => t.reg 0 == 0xFFFFFF80) = true := by decide

/-- The example of R468: LDRH R0, [R1, R2]. -/
theorem test_r468 :
    ran (start 0x0000003F 0x08000000 [(1, 0x03000000), (2, 2)] [(0x03000002, 2, 0xBEEF)]) 16 0x5A88 (fun _ t => t.reg 0 == 0xBEEF) = true := by decide

/-- The example of R469: LDSH R0, [R1, R2] at an odd address. -/
theorem test_r469 :
    ran (start 0x0000003F 0x08000000 [(1, 0x03000000), (2, 1)] [(0x03000001, 1, 0x80)]) 16 0x5E88 (fun _ t => t.reg 0 == 0xFFFFFF80) = true := by decide

/-- The example of R470: STR R0, [R1, #4]. -/
theorem test_r470 :
    ran (start 0x0000003F 0x08000000 [(0, 7), (1, 0x03000000)] []) 16 0x6048 (fun _ t => t.read32 0x03000004 == 7) = true := by decide

/-- The example of R473: LDRB R0, [R1, #1]. -/
theorem test_r473 :
    ran (start 0x0000003F 0x08000000 [(1, 0x03000000)] [(0x03000001, 1, 0x5A)]) 16 0x7848 (fun _ t => t.reg 0 == 0x5A) = true := by decide

/-- The example of R474: STRH R0, [R1, #2]. -/
theorem test_r474 :
    ran (start 0x0000003F 0x08000000 [(0, 0xABCD), (1, 0x03000000)] []) 16 0x8048 (fun _ t => t.read16 0x03000002 == 0xABCD) = true := by decide

/-- The example of R476: STR R0, [SP, #4]. -/
theorem test_r476 :
    ran (start 0x0000003F 0x08000000 [(0, 3), (13, 0x03007F00)] []) 16 0x9001 (fun _ t => t.read32 0x03007F04 == 3) = true := by decide

/-- The example of R481: POP R4, PC. -/
theorem test_r481 :
    ran (start 0x0000003F 0x08000000 [(13, 0x03007EF8)] [(0x03007EF8, 4, 4), (0x03007EFC, 4, 0x08000123)]) 16 0xBD10 (fun s t => t.reg 4 == 4 && t.reg 13 == 0x03007F00 && t.pc == 0x08000122 && t.cpsr == s.cpsr) = true := by decide

/-! ## Well-formedness: each check refuses an ill-formed term -/

theorem test_wf_u1_refuses_mul : (Instr.undefU1 .al 0b00000#5 0 0).wf = false := by decide
theorem test_wf_u1_refuses_long_multiply : (Instr.undefU1 .al 0b01101#5 0 0).wf = false := by decide
theorem test_wf_u1_refuses_swp : (Instr.undefU1 .al 0b10000#5 0 0).wf = false := by decide
theorem test_wf_u1_refuses_swpb : (Instr.undefU1 .al 0b10100#5 0 0).wf = false := by decide
theorem test_wf_u3_refuses_psr_transfer : (Instr.undefU3 .al 0b00#2 0 0b0000#4 0).wf = false := by decide
theorem test_wf_u3_refuses_bx : (Instr.undefU3 .al 0b01#2 0 0b0001#4 0).wf = false := by decide
theorem test_wf_u3_refuses_halfword : (Instr.undefU3 .al 0b10#2 0 0b1011#4 0).wf = false := by decide
theorem test_wf_u3_admits_clz_space : (Instr.undefU3 .al 0b11#2 0 0b0001#4 0).wf = true := by decide
theorem test_decode_too_short : decodeTableWord 16 0xDE00 ≠ none ∧ decodeTableWord 8 0 = none := by decide

/-! ## Dispatch, interrupts, DMA, timers and power (95 §3.12) -/

/-- S1's start. -/
def irqStart (cpsr pc : Word) : State :=
  { start cpsr 0 [] [] with pc := pc, irq := { ie := 1, ifl := 1, ime := true } }

/-- S1: IRQ entry from ARM state. -/
theorem test_s1 :
    (let t := steps 1 (irqStart 0x0000001F 0x08000018)
     t.cpsr.toWord == 0x92 && t.spsr.irq == word 0x1F && t.reg 14 == 0x08000014 && t.pc == 0x18 && t.bubble == 2 &&
       t.clock == 0) = true := by decide

/-- S2: IRQ entry from THUMB state. -/
theorem test_s2 :
    (let t := steps 1 (irqStart 0x0000003F 0x08000016)
     t.cpsr.toWord == 0x92 && t.spsr.irq == word 0x3F && t.reg 14 == 0x08000016 && t.pc == 0x18) = true := by decide

/-- S5: IF is write-one-to-clear. -/
theorem test_s5 :
    (let s := { State.bootComplete with irq := { ie := 0, ifl := 9, ime := false } }
     let t := s.memWrite 0x04000202 .half 1
     t.irq.ifl == 8 && (t.memWrite 0x04000202 .half 0).irq.ifl == 8) = true := by decide

/-- The state of S6 before the enable write. -/
def dmaStart : State :=
  let s := { State.bootComplete with mem := memory [(0x02000000, 4, 0x11111111), (0x02000004, 4, 0x22222222)] }
  ((s.memWrite 0x040000B0 .word 0x02000000).memWrite 0x040000B4 .word 0x03000000).memWrite 0x040000B8 .half 2

/-- S6, with two units: an immediate DMA moves its words, is disabled and requests its interrupt. -/
theorem test_s6 :
    (let t := dmaStart.memWrite 0x040000BA .half 0xC400
     let u := (t.performUnit 0).performUnit 0
     t.armed == some 0 && u.armed == none && u.read32 0x03000004 == 0x22222222 && u.irq.ifl == 0x100 &&
       u.dma.q0.ctl == 0x4400 && u.dma.q0.srcShadow == 0x02000008) = true := by decide

/-- S8: the lower channel goes first. -/
theorem test_s8 :
    (let on (s : State) (n : Fin 4) := s.setDma n { s.dma.get n with ctl := 0x9400, enabledMask := 2 }
     let t := (on (on State.bootComplete 1) 2).requestTrigger 2 1
     t.armed == some 2 && (t.requestTrigger 1 1).armed == some 1) = true := by decide

/-- A timer pair as S10d sets it up. -/
def timerStart : State :=
  (((State.bootComplete.memWrite 0x04000100 .half 0xFFFF).memWrite 0x04000104 .half 0xFFFF).memWrite
    0x04000106 .half 0x00C4).memWrite 0x04000102 .half 0x0080

/-- S10d: a cascade overflow. -/
theorem test_s10d :
    (let t := timerStart.charge 1
     t.timers.q1.counter == 0xFFFF && t.irq.ifl == 0x10 && t.out == [.timerOverflow 0, .timerOverflow 1]) = true := by
  decide

/-- S9: the prescaler of 64 clocks. -/
theorem test_s9 :
    (let s := State.bootComplete.memWrite 0x04000102 .half 0x0081
     (s.charge 127).timers.q0.counter == 1 && ((s.charge 127).charge 1).read16 0x04000100 == 2) = true := by decide

/-- S12c: HALT has no effect while a request is pending. -/
theorem test_s12c :
    ((irqStart 0x0000001F 0).memWrite 0x04000301 .byte 0).halted = false ∧
    (State.bootComplete.memWrite 0x04000301 .byte 0).halted = true := by decide

/-- S12d: STOP idles one clock, and the keypad event ends it. -/
theorem test_s12d :
    (let s := { irqStart 0x0000001F 0x08000018 with env := [(1, .keypadWake)] }
     let t := s.memWrite 0x04000301 .byte 0x80
     t.stopped && (steps 1 t).clock == 1 && (steps 1 t).stopped && !(steps 2 t).stopped) = true := by decide

/-! ## Witnesses: a state and operands that meet the hypotheses of each statement, at the boundaries of its clauses -/

/-- ARM state, System mode. -/
def arm : State := start 0x0000001F 0x08000000 [] []

/-- THUMB state, System mode. -/
def thumb : State := start 0x0000003F 0x08000000 [] []

theorem test_witness_DecodeOfEncode :
    (Instr.undefU1 .al 0b00100#5 0 0).wf = true ∧ (Instr.undefU3 .nv 0b11#2 0xFFF 0b0001#4 0xF).wf = true ∧
    (Instr.tB 0x7FF).wf = true := by decide

theorem test_witness_FailedConditionIsNoOp :
    (Instr.swi .nv 5).isa = .arm ∧ condPassed (instrCond (.swi .nv 5)) arm.cpsr = false ∧
    (Instr.undefU4 .eq false 0).isa = .arm ∧ condPassed (instrCond (.undefU4 .eq false 0)) arm.cpsr = false := by decide

theorem test_witness_BankTable : (0#4 : RegNo) ≠ 15#4 ∧ (14#4 : RegNo) ≠ 15#4 := by decide

theorem test_witness_ShiftedOperands :
    (0#8).toNat = 0 ∧ (1#8).toNat ≠ 0 ∧ (32#8).toNat ≠ 0 ∧ (33#8).toNat ≠ 0 ∧ (255#8).toNat ≠ 0 ∧ (31 : Nat) < 32 := by
  decide

theorem test_witness_DpLogic : arm.cpsr.t = false ∧ condPassed .al arm.cpsr = true ∧ (14#4 : RegNo) ≠ 15#4 := by decide

theorem test_witness_DpArith : arm.cpsr.t = false ∧ condPassed .ne arm.cpsr = true ∧ (0#4 : RegNo) ≠ 15#4 := by decide

theorem test_witness_DpTests : arm.cpsr.t = false ∧ condPassed .cc arm.cpsr = true := by decide

theorem test_witness_DpWritesPc :
    (start 0x00000013 0x08000000 [] []).cpsr.t = false ∧
    condPassed .al (start 0x00000013 0x08000000 [] []).cpsr = true := by decide

theorem test_witness_MrsReads : condPassed .al (start 0x00000092 0 [] []).cpsr = true := by decide

theorem test_witness_MsrWrites :
    condPassed .al (start 0x00000010 0 [] []).cpsr = true ∧ condPassed .al arm.cpsr = true := by decide

theorem test_witness_MulResult : condPassed .al arm.cpsr = true := by decide

theorem test_witness_MullResult :
    condPassed .al arm.cpsr = true ∧ (0#4 : RegNo) ≠ 15#4 ∧ (1#4 : RegNo) ≠ 15#4 ∧ (1#4 : RegNo) ≠ 0#4 := by decide

theorem test_witness_ArmBranches : arm.cpsr.t = false ∧ condPassed .pl arm.cpsr = true := by decide

theorem test_witness_BranchExchange : condPassed .al arm.cpsr = true := by decide

theorem test_witness_TrapInstructions :
    arm.cpsr.t = ((Instr.swi .al 0).isa == .thumb) ∧ condPassed (instrCond (.swi .al 0)) arm.cpsr = true ∧
    swiInstr (.swi .al 0) = true ∧
    thumb.cpsr.t = ((Instr.tUndefU2 0).isa == .thumb) ∧ condPassed (instrCond (.tUndefU2 0)) thumb.cpsr = true ∧
    undefinedInstr (.tUndefU2 0) = true := by decide

theorem test_witness_SwiRoundTrip :
    swiInstr (.swi .al 1) = true ∧ arm.cpsr.t = ((Instr.swi .al 1).isa == .thumb) ∧
    condPassed (instrCond (.swi .al 1)) arm.cpsr = true ∧
    swiInstr (.tSwi 1) = true ∧ thumb.cpsr.t = ((Instr.tSwi 1).isa == .thumb) ∧
    condPassed (instrCond (.tSwi 1)) thumb.cpsr = true := by decide

theorem test_witness_ArmLoads : condPassed .vc arm.cpsr = true := by decide

theorem test_witness_ArmStores :
    arm.cpsr.t = false ∧ condPassed .ls arm.cpsr = true ∧ Memory.wf arm.mem = true := by decide

theorem test_witness_Swaps :
    (let s := start 0x0000001F 0 [] [(0xFFFFFFFC, 4, 0x01020304)]
     condPassed .al s.cpsr && Memory.wf s.mem) = true := by decide

theorem test_witness_LdmLoads : condPassed .ge arm.cpsr = true := by decide

theorem test_witness_StmStores :
    arm.cpsr.t = false ∧ condPassed .gt arm.cpsr = true ∧ Memory.wf arm.mem = true := by decide

theorem test_witness_ThumbShifts : tShiftImmInstr .asr 0#5 1#3 0#3 = some (.tAsrImm 0#5 1#3 0#3) := by decide

theorem test_witness_ThumbStores : Memory.wf thumb.mem = true := by decide

theorem test_witness_ThumbPushStmia : thumb.cpsr.t = true ∧ Memory.wf thumb.mem = true := by decide

theorem test_witness_ThumbBranches :
    tBranchInstr .eq 0x80#8 = some (.tBEq 0x80#8) ∧ condPassed .eq thumb.cpsr = false ∧
    tBranchInstr .le 0#8 = some (.tBLe 0#8) ∧ condPassed .le (start 0x8000003F 0 [] []).cpsr = true := by decide

theorem test_witness_ThumbBlPair : thumb.cpsr.t = true := by decide

/-- The CPU has its turn: a plain state, and a halted one with a request that IME does not let through. -/
theorem test_witness_StepRunsInstruction :
    let s := { irqStart 0x0000001F 8 with halted := true, irq := { ie := 1, ifl := 1, ime := false } }
    CpuTurn arm ∧ ¬(IrqRaised arm ∧ arm.cpsr.i = false) ∧ CpuTurn s ∧ ¬(IrqRaised s ∧ s.cpsr.i = false) ∧
    CpuTurn (irqStart 0x0000009F 8) ∧
    ¬(IrqRaised (irqStart 0x0000009F 8) ∧ (irqStart 0x0000009F 8).cpsr.i = false) := by
  unfold CpuTurn Quiet IrqRaised; decide

theorem test_witness_BubbleRefill :
    State.reset.env = [] ∧ State.reset.stopped = false ∧ State.reset.armed = none ∧ State.reset.bubble = 2 := by decide

theorem test_witness_IrqEntry :
    let s := { irqStart 0x0000003F 0x08000016 with halted := true, env := [(1, .request .vblank)] }
    CpuTurn s ∧ IrqRaised s ∧ s.cpsr.i = false := by
  unfold CpuTurn Quiet IrqRaised; decide

theorem test_witness_HaltAndStop :
    let s := { arm with halted := true, env := [(1, .keypadWake)] }
    (∀ x ∈ s.env, s.clock < x.1) ∧ s.stopped = false ∧ s.armed = none ∧ s.bubble = 0 ∧ s.halted = true ∧
    s.irq.ie &&& s.irq.ifl = 0 ∧ { s with stopped := true }.stopped = true ∧
    (dmaStart.memWrite 0x040000BA .half 0xC400).armed = some 0 ∧
    (dmaStart.memWrite 0x040000BA .half 0xC400).stopped = false := by decide

/-- A state in THUMB that meets the invariant and steps. -/
theorem test_witness_InvariantKept : thumb.Inv ∧ ∃ t, step thumb = .next t := by
  refine ⟨⟨by decide, by decide, by decide, by decide, by decide, ?_, ?_, by decide⟩, steps 1 thumb, rfl⟩
  · intro n; constructor <;> revert n <;> decide
  · intro n; constructor <;> revert n <;> decide

theorem test_witness_BankIsolation :
    (∀ r : RegNo, phys arm.cpsr.mode r ≠ some 26) ∧ phys .svc 14#4 ≠ some 26 ∧ phys .und 14#4 ≠ some 26 ∧
    (∀ r : RegNo, phys .user r ≠ some 26) ∧ (∃ t, exec (.movImm .al false 0 13 0 1) arm = .next t) := by
  refine ⟨by decide, by decide, by decide, by decide, ⟨_, rfl⟩⟩

/-- An LDM with the S bit that lists R15 is not exempt: executed in IRQ mode it must spare R13_usr. -/
theorem test_witness_BankIsolation_ldm :
    let s := start 0x00000012 0 [] []
    let i : Instr := .ldm .al false true true false 0 0x8000
    s.cpsr.mode = .irq ∧ phys .user 13#4 = some 13 ∧ (∀ r : RegNo, phys s.cpsr.mode r ≠ some 13) ∧
    phys .svc 14#4 ≠ some 13 ∧ phys .und 14#4 ≠ some 13 ∧
    (∀ c a u w rn l, moves l 15 = false → i ≠ .ldm c a u true w rn l) ∧ ∃ t, exec i s = .next t := by
  refine ⟨by decide, by decide, by decide, by decide, by decide, ?_, ⟨_, rfl⟩⟩
  intro c a u w rn l h e
  injection e with _ _ _ _ _ _ hl
  subst hl
  revert h; decide

theorem test_witness_UserModeConfined :
    (start 0x00000010 0 [] []).cpsr.mode = .user ∧
    (∃ t, exec (.movImm .al false 0 0 0 1) (start 0x00000010 0 [] []) = .next t) ∧
    ∃ t, exec (.swi .al 0) (start 0x00000010 0 [] []) = .next t :=
  ⟨by decide, ⟨_, rfl⟩, ⟨_, rfl⟩⟩

/-- The last word of the address space, and the words just below and above the DMA registers. -/
theorem test_witness_MemoryReadWrite :
    Memory.wf arm.mem = true ∧ (0xFFFFFFFC : Word).toNat % 4 = 0 ∧ (0xFFFFFFFE : Word).toNat % 2 = 0 ∧
    (∀ j < 4, isIo ((0xFFFFFFFC : Word).toNat + j) = false) ∧
    (∀ j < 4, isIo ((0x040000AC : Word).toNat + j) = false) ∧
    ∀ j < 4, isIo ((0x040000E0 : Word).toNat + j) = false := by decide

theorem test_witness_IrqController : (0 : Nat) < 14 ∧ (13 : Nat) < 14 ∧ (irqStart 0x1F 8).irqLine = true := by decide

theorem test_witness_DmaEnable :
    (0x8000 : Half).getLsbD 15 = true ∧ (arm.dma.get 0).ctl.getLsbD 15 = false ∧ (0x7FFF : Half).getLsbD 15 = false ∧
    ((dmaStart.memWrite 0x040000BA .half 0xC400).dma.get 0).ctl.getLsbD 15 = true ∧ (1 : Fin 4) ≠ 0 := by decide

/-- A word unit that is not the last and one that is, and a sound-FIFO block's last unit. -/
theorem test_witness_DmaUnit :
    let s := dmaStart.memWrite 0x040000BA .half 0xC400
    let f := s.setDma 1 { s.dma.get 1 with ctl := 0xB600, fifoUnits := 1 }
    Memory.wf s.mem = true ∧ (∀ j < 4, isIo ((s.dma.get 0).dstShadow.toNat / 4 * 4 + j) = false) ∧
    ((s.dma.get 0).cntShadow - 1) &&& 0x3FFF ≠ 0 ∧ (((s.performUnit 0).dma.get 0).cntShadow - 1) &&& 0x3FFF = 0 ∧
    (f.dma.get 1).ctl.extractLsb' 12 2 = 3#2 ∧ (f.dma.get 1).fifoUnits.val - 1 = 0 := by decide

theorem test_witness_DmaTriggers :
    let s := State.bootComplete.setDma 1 { DmaChannel.zero with ctl := 0xB600, enabledMask := 8 }
    (s.dma.get 1).enabledMask &&& typeBit 1 3#2 ≠ 0 ∧ (s.dma.get 1).enabledMask &&& typeBit 1 1#2 = 0 ∧
    (s.dma.get 0).enabledMask &&& typeBit 0 3#2 = 0 := by decide

theorem test_witness_TimerTick :
    (timerStart.timers.get 0).counter = 0xFFFF ∧ (arm.timers.get 0).counter ≠ 0xFFFF ∧
    (1 : Fin 4).val = (0 : Fin 4).val + 1 ∧ (timerStart.timers.get 1).enabled = true ∧
    (timerStart.timers.get 1).cascade = true ∧ (arm.timers.get 1).cascade = false := by decide

theorem test_witness_TimerClosedForm :
    (0 : Fin 4) < 3 ∧ counterAfter 0xFFFF 0xFFFE 1 = 0xFFFE ∧ counterAfter 0xFFFF 0xFFFE 3 = 0xFFFE ∧
    counterAfter 5 0 0 = 5 ∧ overflowsIn 0xFFFF 0xFFFE 1 = 1 ∧ overflowsIn 0xFFFF 0xFFFE 3 = 2 := by decide

theorem test_witness_PredictionExact :
    (timerStart.timers.get 0).clocked 0 = true ∧
    (timerStart.timers.get 0).precounter.toNat < 2 ^ prescaleShift (timerStart.timers.get 0).prescale ∧
    timerStart.nextOverflow 0 1 = some 1 := by decide

/-- An `advance` call that runs two STOP clocks, and one whose budget the overshoot already covers. -/
theorem test_witness_AdvanceBudget :
    (∃ t, advance 2 2 { arm with stopped := true } = some (.next t)) ∧
    (∃ t, advance 3 0 { arm with clock := 3 } = some (.next t)) ∧ arm.budgetEnd + 3 ≤ { arm with clock := 3 }.clock := by
  refine ⟨⟨_, rfl⟩, ⟨_, rfl⟩, by decide⟩

end Sys2Proof.Tests
end

section
/-! Proofs of the statements about 00_scope.md: `AddWithCarry` (R16), one lemma per component of its answer. -/

namespace Sys2Proof.Machine

/-- The carry input as a word has the carry's own value, so the wrapped word sum is the exact sum modulo 2^32. -/
theorem addWithCarry_r_toNat (a b : Word) (c : Bool) :
    (addWithCarry a b c).r.toNat = (a.toNat + b.toNat + c.toNat) % 2 ^ 32 := by
  have hc : (BitVec.setWidth 32 (BitVec.ofBool c)).toNat = c.toNat := by cases c <;> rfl
  simp only [addWithCarry, BitVec.toNat_add, hc, Nat.mod_add_mod]

theorem addWithCarry_c_iff (a b : Word) (c : Bool) :
    (addWithCarry a b c).c = true ↔ 2 ^ 32 ≤ a.toNat + b.toNat + c.toNat := decide_eq_true_iff

theorem addWithCarry_v_iff (a b : Word) (c : Bool) :
    (addWithCarry a b c).v = true ↔
      ¬(-2 ^ 31 ≤ a.toInt + b.toInt + c.toNat ∧ a.toInt + b.toInt + c.toNat ≤ 2 ^ 31 - 1) := by
  rw [not_and_or, not_le, not_le]
  exact decide_eq_true_iff

/-- With carry-in 1 the exact sum of `a` and the complement of `b` is `a - b + 2^32`. -/
theorem toNat_add_not_add_one (a b : Word) :
    a.toNat + (~~~b).toNat + true.toNat = 2 ^ 32 - b.toNat + a.toNat := by
  have hb := b.isLt
  rw [BitVec.toNat_not, Bool.toNat_true]
  omega

theorem addWithCarry_not_true_r (a b : Word) : (addWithCarry a (~~~b) true).r = a - b :=
  BitVec.eq_of_toNat_eq (by rw [addWithCarry_r_toNat, toNat_add_not_add_one, BitVec.toNat_sub])

/-- The no-borrow reading of the carry (R16). -/
theorem addWithCarry_not_true_c_iff (a b : Word) :
    (addWithCarry a (~~~b) true).c = true ↔ b.toNat ≤ a.toNat := by
  have hb := b.isLt
  rw [addWithCarry_c_iff, toNat_add_not_add_one]
  omega

/-- Settles O8: each component of `AddWithCarry` by its own lemma, the two of the subtraction through the exact sum
`a + ~b + 1 = 2^32 - b + a`. -/
theorem addWithCarryExact : Obligations.AddWithCarryExact := fun a b c =>
  ⟨addWithCarry_r_toNat a b c, addWithCarry_c_iff a b c, addWithCarry_v_iff a b c,
    addWithCarry_not_true_r a b, addWithCarry_not_true_c_iff a b⟩

end Sys2Proof.Machine
end

section
/-! Proofs of the statements about 10_state.md, first part: what an instruction can do. `Work` lists the operations that
keep the mode and the instruction set, `Effect` adds what can come last and change them, and `exec_does` says once that
every instruction answers a next state that it reaches in this way. -/

namespace Sys2Proof.Machine

open Sys2Proof.Spec

/-- A status word that differs from `p` in the flags only. -/
def Cpsr.FlagsOnly (p q : Cpsr) : Prop := q = { p with n := q.n, z := q.z, c := q.c, v := q.v }

theorem Cpsr.FlagsOnly.refl (p : Cpsr) : p.FlagsOnly p := rfl

theorem Cpsr.FlagsOnly.trans {p q r : Cpsr} (h : p.FlagsOnly q) (k : q.FlagsOnly r) : p.FlagsOnly r := by
  unfold Cpsr.FlagsOnly at *; rw [k, h]

theorem Cpsr.FlagsOnly.mode {p q : Cpsr} (h : p.FlagsOnly q) : q.mode = p.mode := (congrArg Cpsr.mode h).trans rfl

theorem Cpsr.FlagsOnly.t {p q : Cpsr} (h : p.FlagsOnly q) : q.t = p.t := (congrArg Cpsr.t h).trans rfl

/-- The LDM that loads the User bank: S set and R15 not in the list (R341). -/
def loadsUserBank : Instr → Bool
  | .ldm _ _ _ S _ _ l => S && !inList l 15#4
  | _ => false

/-- The states that instruction `i` can reach from `s` while the mode and the instruction set stay. -/
inductive Work (i : Instr) (s : State) : State → Prop
  | start : Work i s s
  | setReg {t : State} (h : Work i s t) (r : RegNo) (v : Word) : Work i s (t.setReg r v)
  | setUserReg {t : State} (h : Work i s t) (hi : loadsUserBank i = true) (r : RegNo) (v : Word) :
      Work i s (t.setUserReg r v)
  | branch {t : State} (h : Work i s t) (a : Word) : Work i s (t.branch a)
  | flags {t : State} (h : Work i s t) {p : Cpsr} (hp : t.cpsr.FlagsOnly p) : Work i s { t with cpsr := p }
  | access {t : State} (h : Work i s t) (g : Agent) (a : Word) (w : Width) (k : AccessKind) :
      Work i s (t.access g a w k)
  | store {t : State} (h : Work i s t) (k : StoreKind) (a v : Word) : Work i s (t.store k a v)

/-- The states that instruction `i` can leave when it starts in `s`: an exception return, an MSR, a change of the
instruction set or an exception entry comes after the rest of its work. -/
inductive Effect (i : Instr) (s : State) : State → Prop
  | work {t : State} (h : Work i s t) : Effect i s t
  | restore {t : State} (h : Work i s t) (a : Word) : Effect i s (t.restoreCpsr.branch a)
  | msr (R : Bool) (f : BitVec 4) (op : Word) : Effect i s (s.msrWrite R f op)
  | exchange (v : Word) : Effect i s (s.branchExchange v)
  | swi (hi : swiInstr i = true) : Effect i s s.raiseSwi
  | undefined (hi : undefinedInstr i = true) : Effect i s s.raiseUndefined
  | internal {t : State} (h : Effect i s t) (k : Nat) : Effect i s (t.internal k)

/-- The answer is a next state that `i` can leave. -/
def Does (i : Instr) (s : State) (r : Result) : Prop := ∃ t, r = .next t ∧ Effect i s t

variable {i : Instr} {s t : State}

theorem Effect.does (h : Effect i s t) : Does i s (.next t) := ⟨t, rfl, h⟩

theorem Work.does (h : Work i s t) : Does i s (.next t) := (Effect.work h).does

/-- A failed condition leaves the state it found. -/
theorem Effect.runArm (h : Effect i s t) (c : Cond) (cases : List (UnpredCase × Bool)) :
    Does i s (runArm c s cases t) := by
  rw [runArm_next]
  split
  · exact h.does
  · exact Work.start.does

theorem Work.runArm (h : Work i s t) (c : Cond) (cases : List (UnpredCase × Bool)) : Does i s (runArm c s cases t) :=
  (Effect.work h).runArm c cases

/-! ## Data processing -/

/-- Every data-processing operation leaves the control bits of CPSR as they were. -/
def KeepsControl (f : Alu) : Prop := ∀ (a : Word) (b : Shifted) (p : Cpsr), p.FlagsOnly (f a b p).p

theorem dpWrite_effect (S : Bool) (rd : RegNo) {x : AluOut} (hx : s.cpsr.FlagsOnly x.p) :
    Effect i s (s.dpWrite S rd x) := by
  unfold State.dpWrite
  split
  · cases S
    · exact .work (Work.start.branch _)
    · exact .restore .start _
  · cases S
    · exact .work (Work.start.setReg _ _)
    · exact .work ((Work.start.setReg rd x.r).flags (by rwa [setReg_cpsr]))

theorem dpImm_does {f : Alu} (hf : KeepsControl f := by intro _ _ _; rfl)
    (c : Cond) (S : Bool) (rn rd : RegNo) (rot : BitVec 4)
    (imm : BitVec 8) : Does i s (dpImm f c S rn rd rot imm s) :=
  (dpWrite_effect S rd (hf _ _ _)).runArm _ _

theorem dpShiftImm_does {f : Alu} (hf : KeepsControl f := by intro _ _ _; rfl)
    (c : Cond) (S : Bool) (rn rd : RegNo) (n : BitVec 5)
    (t : Shift) (rm : RegNo) : Does i s (dpShiftImm f c S rn rd n t rm s) :=
  (dpWrite_effect S rd (hf _ _ _)).runArm _ _

theorem dpShiftReg_does {f : Alu} (hf : KeepsControl f := by intro _ _ _; rfl)
    (c : Cond) (S : Bool) (rn rd rs : RegNo) (t : Shift)
    (rm : RegNo) : Does i s (dpShiftReg f c S rn rd rs t rm s) :=
  ((dpWrite_effect S rd (hf _ _ _)).internal 1).runArm _ _

theorem testImm_does {f : Alu} (hf : KeepsControl f := by intro _ _ _; rfl)
    (c : Cond) (rn : RegNo) (rot : BitVec 4) (imm : BitVec 8) :
    Does i s (testImm f c rn rot imm s) :=
  (Work.start.flags (hf _ _ _)).runArm _ _

theorem testShiftImm_does {f : Alu} (hf : KeepsControl f := by intro _ _ _; rfl)
    (c : Cond) (rn : RegNo) (n : BitVec 5) (t : Shift)
    (rm : RegNo) : Does i s (testShiftImm f c rn n t rm s) :=
  (Work.start.flags (hf _ _ _)).runArm _ _

theorem testShiftReg_does {f : Alu} (hf : KeepsControl f := by intro _ _ _; rfl)
    (c : Cond) (rn rd rs : RegNo) (t : Shift) (rm : RegNo) :
    Does i s (testShiftReg f c rn rd rs t rm s) :=
  ((Effect.work (Work.start.flags (hf _ _ _))).internal 1).runArm _ _

theorem tWrite_work (rd : LowReg) {x : AluOut} (hx : s.cpsr.FlagsOnly x.p) : Work i s (s.tWrite rd x) :=
  (Work.start.setReg (lowReg rd) x.r).flags (by rwa [setReg_cpsr])

theorem tAlu_does {f : Alu} (hf : KeepsControl f := by intro _ _ _; rfl)
    (rd : LowReg) (a b : Word) : Does i s (tAlu f rd a b s) :=
  (tWrite_work rd (hf _ _ _)).does

theorem tTest_does {f : Alu} (hf : KeepsControl f := by intro _ _ _; rfl) (a b : Word) : Does i s (tTest f a b s) :=
  (Work.start.flags (hf _ _ _)).does

theorem keepsControl_mov : KeepsControl aluMov := fun _ _ _ => rfl

theorem keepsControl_cmp : KeepsControl aluCmp := fun _ _ _ => rfl

theorem tShiftImm_does (t : Shift) (off : BitVec 5) (rs rd : LowReg) : Does i s (tShiftImm t off rs rd s) :=
  (tWrite_work rd (keepsControl_mov _ _ _)).does

theorem tShiftReg_does (t : Shift) (rs rd : LowReg) : Does i s (tShiftReg t rs rd s) :=
  ((Effect.work (tWrite_work rd (keepsControl_mov _ _ _))).internal 1).does

/-! ## Multiplies -/

theorem mulWrite_effect (S : Bool) (rd : RegNo) (r : Word) (k : Nat) :
    Effect i s ((s.mulWrite S rd r).internal k) := by
  cases S
  · exact (Effect.work (Work.start.setReg rd r)).internal k
  · exact (Effect.work ((Work.start.setReg rd r).flags (p := (s.setReg rd r).cpsr.setNZ r) rfl)).internal k

theorem mullWrite_effect (S : Bool) (rdHi rdLo : RegNo) (x : BitVec 64) (k : Nat) :
    Effect i s ((s.mullWrite S rdHi rdLo x).internal k) := by
  have h : Work i s ((s.setReg rdLo (x.setWidth 32)).setReg rdHi (x.extractLsb' 32 32)) :=
    (Work.start.setReg _ _).setReg _ _
  cases S
  · exact (Effect.work h).internal k
  · exact (Effect.work (h.flags (p := Cpsr.setNZ64 _ x) rfl)).internal k

/-! ## Loads and stores -/

theorem Work.loadAccess (h : Work i s t) (k : LoadKind) (a : Word) : Work i s (t.loadAccess k a) := by
  cases k with
  | signedHalf => unfold State.loadAccess; dsimp only; split <;> exact h.access _ _ _ _
  | _ => exact h.access _ _ _ _

theorem Work.writeback (h : Work i s t) (s0 : State) (wb u : Bool) (rn : RegNo) (off : Word) :
    Work i s (t.writeback s0 wb u rn off) := by
  unfold State.writeback
  split
  · exact h.setReg _ _
  · exact h

theorem runLoad_does (k : LoadKind) (c : Cond) (cases : List (UnpredCase × Bool)) (p u wb : Bool) (rn rd : RegNo)
    (off : Word) : Does i s (runLoad k c cases p u wb rn rd off s) :=
  ((Effect.work (((Work.start.loadAccess k _).writeback s wb u rn off).setReg rd _)).internal 1).runArm _ _

theorem runStore_does (k : StoreKind) (c : Cond) (cases : List (UnpredCase × Bool)) (p u wb : Bool) (rn rd : RegNo)
    (off : Word) : Does i s (runStore k c cases p u wb rn rd off s) :=
  ((Work.start.store k _ _).writeback s wb u rn off).runArm _ _

theorem swap_effect (lk : LoadKind) (sk : StoreKind) (rn rd rm : RegNo) : Effect i s (s.swap lk sk rn rd rm) :=
  (Effect.work (((Work.start.loadAccess lk _).store sk _ _).setReg rd _)).internal 1

theorem tLoad_does (k : LoadKind) (rd : LowReg) (a : Word) : Does i s (tLoad k rd a s) :=
  ((Effect.work ((Work.start.loadAccess k a).setReg _ _)).internal 1).does

theorem tStore_does (k : StoreKind) (rd : LowReg) (a : Word) : Does i s (tStore k rd a s) :=
  (Work.start.store k a _).does

/-! ## Block transfers -/

theorem Work.blockReads (h : Work i s t) (slots : List (RegNo × Word)) : Work i s (t.blockReads slots) := by
  induction slots generalizing t with
  | nil => exact h
  | cons x rest ih => exact ih (h.access _ _ _ _)

theorem Work.blockStore (h : Work i s t) (vals : List (RegNo × Word × Word)) : Work i s (t.blockStore vals) := by
  induction vals generalizing t with
  | nil => exact h
  | cons x rest ih => exact ih (h.store _ _ _)

theorem Work.blockSet (h : Work i s t) {user : Bool} (hu : user = true → loadsUserBank i = true)
    (vals : List (RegNo × Word)) : Work i s (t.blockSet user vals) := by
  induction vals generalizing t with
  | nil => exact h
  | cons x rest ih =>
    refine ih (t := if x.1 = 15#4 then t else if user then t.setUserReg x.1 x.2 else t.setReg x.1 x.2) ?_
    split
    · exact h
    · split
      next hu' => exact h.setUserReg (hu hu') _ _
      · exact h.setReg _ _

theorem Work.blockBranch_keep (h : Work i s t) (vals : List (RegNo × Word)) : Work i s (t.blockBranch false vals) := by
  unfold State.blockBranch
  split
  · exact h.branch _
  · exact h

theorem Work.blockBranch (h : Work i s t) (restore : Bool) (vals : List (RegNo × Word)) :
    Effect i s (t.blockBranch restore vals) := by
  cases restore
  · exact .work (h.blockBranch_keep vals)
  · unfold State.blockBranch
    split
    · exact .restore h _
    · exact .work h

theorem ldm_effect (p u S w : Bool) (rn : RegNo) (l : BitVec 16)
    (hu : (S && !inList l 15#4) = true → loadsUserBank i = true) : Effect i s (s.ldm p u S w rn l) := by
  refine ((Work.blockSet ?_ hu _).blockBranch S _).internal 1
  cases w
  · exact Work.start.blockReads _
  · exact (Work.start.blockReads _).setReg _ _

theorem stm_work (p u S w : Bool) (rn : RegNo) (l : BitVec 16) : Work i s (s.stm p u S w rn l) := by
  cases w
  · exact Work.start.blockStore _
  · exact (Work.start.blockStore _).setReg _ _

theorem tPush_work (l : BitVec 16) : Work i s (s.tPush l) := (Work.start.blockStore _).setReg _ _

theorem tPop_effect (l : BitVec 16) : Effect i s (s.tPop l) :=
  (Effect.work
    ((((Work.start.blockReads _).blockSet Bool.false_ne_true.elim _).blockBranch_keep _).setReg _ _)).internal 1

/-! ## Branches -/

theorem tBranchIf_does (c : Cond) (off : BitVec 8) : Does i s (tBranchIf c off s) := by
  unfold tBranchIf
  split
  · exact (Work.start.branch _).does
  · exact Work.start.does

/-! ## Every instruction -/

/-- Every instruction, in every state, answers a next state that `Effect` names: one line for each shared shape. -/
theorem exec_does (i : Instr) (s : State) : Does i s (exec i s) := by
  cases i
  case andImm | eorImm | subImm | rsbImm | addImm | adcImm | sbcImm | rscImm | orrImm | movImm | bicImm | mvnImm =>
    exact dpImm_does ..
  case andShiftImm | eorShiftImm | subShiftImm | rsbShiftImm | addShiftImm | adcShiftImm | sbcShiftImm |
      rscShiftImm | orrShiftImm | movShiftImm | bicShiftImm | mvnShiftImm => exact dpShiftImm_does ..
  case andShiftReg | eorShiftReg | subShiftReg | rsbShiftReg | addShiftReg | adcShiftReg | sbcShiftReg |
      rscShiftReg | orrShiftReg | movShiftReg | bicShiftReg | mvnShiftReg => exact dpShiftReg_does ..
  case tstImm | teqImm | cmpImm | cmnImm => exact testImm_does ..
  case tstShiftImm | teqShiftImm | cmpShiftImm | cmnShiftImm => exact testShiftImm_does ..
  case tstShiftReg | teqShiftReg | cmpShiftReg | cmnShiftReg => exact testShiftReg_does ..
  case mrs => exact (Work.start.setReg _ _).runArm _ _
  case msrReg | msrImm => exact (Effect.msr _ _ _).runArm _ _
  case mul | mla => exact (mulWrite_effect _ _ _ _).runArm _ _
  case umull | umlal | smull | smlal => exact (mullWrite_effect _ _ _ _ _).runArm _ _
  case swp | swpb => exact (swap_effect _ _ _ _ _).runArm _ _
  case ldrImmPre | ldrImmPost | ldrRegPre | ldrRegPost | ldrbImmPre | ldrbImmPost | ldrbRegPre | ldrbRegPost |
      ldrtImm | ldrtReg | ldrbtImm | ldrbtReg | ldrh | ldrsb | ldrsh => exact runLoad_does ..
  case strImmPre | strImmPost | strRegPre | strRegPost | strbImmPre | strbImmPost | strbRegPre | strbRegPost |
      strtImm | strtReg | strbtImm | strbtReg | strh => exact runStore_does ..
  case ldm => exact (ldm_effect _ _ _ _ _ _ id).runArm _ _
  case stm => exact (stm_work _ _ _ _ _ _).runArm _ _
  case b => exact (Work.start.branch _).runArm _ _
  case bl => exact ((Work.start.setReg _ _).branch _).runArm _ _
  case bx => exact (Effect.exchange _).runArm _ _
  case swi => exact (Effect.swi rfl).runArm _ _
  case undefU1 | undefU2 | undefU3 | undefU4 | undefU5 | ldc | stc | cdp | mcr | mrc =>
    exact (Effect.undefined rfl).runArm _ _
  case tLslImm | tLsrImm | tAsrImm => exact tShiftImm_does ..
  case tLsl | tLsr | tAsr | tRor => exact tShiftReg_does ..
  case tAddReg | tSubReg | tAddImm3 | tSubImm3 | tMovImm8 | tAddImm8 | tSubImm8 | tAnd | tEor | tAdc | tSbc | tNeg |
      tOrr | tBic | tMvn => exact tAlu_does ..
  case tCmpImm8 | tTst | tCmp | tCmn => exact tTest_does ..
  case tMul => exact (mulWrite_effect _ _ _ _).does
  case tAddHi | tMovHi | tAddPc | tAddSp | tAddSpImm | tSubSpImm | tBlPrefix => exact (Work.start.setReg _ _).does
  case tCmpHi => exact (Work.start.flags (keepsControl_cmp _ _ _)).does
  case tBx => exact (Effect.exchange _).does
  case tLdrPc | tLdrReg | tLdrbReg | tLdsbReg | tLdrhReg | tLdshReg | tLdrImm | tLdrbImm | tLdrhImm | tLdrSp =>
    exact tLoad_does ..
  case tStrReg | tStrbReg | tStrhReg | tStrImm | tStrbImm | tStrhImm | tStrSp => exact tStore_does ..
  case tPush => exact (tPush_work _).does
  case tPop => exact (tPop_effect _).does
  case tStmia => exact (stm_work _ _ _ _ _ _).does
  case tLdmia => exact (ldm_effect _ _ _ _ _ _ Bool.false_ne_true.elim).does
  case tBEq | tBNe | tBCs | tBCc | tBMi | tBPl | tBVs | tBVc | tBHi | tBLs | tBGe | tBLt | tBGt | tBLe =>
    exact tBranchIf_does ..
  case tB => exact (Work.start.branch _).does
  case tBlSuffix => exact ((Work.start.setReg _ _).branch _).does
  case tSwi => exact (Effect.swi rfl).does
  case tUndefU1a | tUndefU1b | tUndefU1c | tUndefU1d | tUndefU1e | tUndefU2 | tUndefU3 =>
    exact (Effect.undefined rfl).does

end Sys2Proof.Machine
end

section
/-! Proofs of the statements about 10_state.md, second part: the register banks (R42, R45). -/

namespace Sys2Proof.Machine

open Sys2Proof.Spec

/-! ## The table of the banks -/

/-- How far the physical registers of a copy lie above the register number. -/
def copyOffset : Copy → Nat
  | .shared => 0
  | .usr => 0
  | .fiq => 7
  | .svc => 9
  | .abt => 11
  | .irq => 13
  | .und => 15

/-- Which register, and which copy of it, a physical register holds. -/
def ownerOf (p : Fin 30) : RegNo × Copy :=
  if p.val < 8 then (BitVec.ofNat 4 p.val, .shared)
  else if p.val < 15 then (BitVec.ofNat 4 p.val, .usr)
  else if p.val < 22 then (BitVec.ofNat 4 (p.val - 7), .fiq)
  else if p.val < 24 then (BitVec.ofNat 4 (p.val - 9), .svc)
  else if p.val < 26 then (BitVec.ofNat 4 (p.val - 11), .abt)
  else if p.val < 28 then (BitVec.ofNat 4 (p.val - 13), .irq)
  else (BitVec.ofNat 4 (p.val - 15), .und)

/-- A live name's physical register depends on the mode through its copy only. -/
theorem phys_eq_copyOffset {m : Mode} {r : RegNo} (h : r ≠ 15#4) :
    phys m r = some (Fin.ofNat 30 (r.toNat + copyOffset (copyOf m r))) := by
  revert r; cases m <;> decide

/-- The physical register determines the live name and its copy. -/
theorem ownerOf_of_phys {m : Mode} {r : RegNo} {p : Fin 30} (h : phys m r = some p) :
    ownerOf p = (r, copyOf m r) := by
  have key : ∀ r : RegNo, (phys m r).map ownerOf = (phys m r).map fun _ => (r, copyOf m r) := by
    cases m <;> decide
  simpa [h] using key r

/-- Settles O7: `phys` factors through the copy, and `ownerOf` inverts it. -/
theorem bankTable : Obligations.BankTable := by
  refine ⟨fun m => (phys_eq_none_iff m _).mpr rfl, fun m r hr => ?_, fun m n r q hr hq => ⟨fun h => ?_, ?_⟩⟩
  · obtain ⟨p, hp⟩ := phys_some (m := m) hr
    rw [hp]; rfl
  · obtain ⟨p, hp⟩ := phys_some (m := m) hr
    have e : (r, copyOf m r) = (q, copyOf n q) := (ownerOf_of_phys hp).symm.trans (ownerOf_of_phys (h ▸ hp))
    exact Prod.mk.inj e
  · rintro ⟨rfl, hc⟩
    rw [phys_eq_copyOffset hr, phys_eq_copyOffset hr, hc]

/-! ## Isolation of the banks -/

theorem Work.flagsOnly {i : Instr} {s t : State} (h : Work i s t) : s.cpsr.FlagsOnly t.cpsr := by
  induction h with
  | start => exact .refl _
  | setReg _ r v ih => rwa [setReg_cpsr]
  | setUserReg _ _ r v ih => rwa [setUserReg_cpsr]
  | branch _ a ih => exact ih
  | flags _ hp ih => exact ih.trans hp
  | access _ g a w k ih => exact ih
  | store _ k a v ih => rwa [store_cpsr]

/-- The mode stays during an instruction's work, so it writes no register of another bank (R45). -/
theorem Work.regs_other {i : Instr} {s t : State} {p : Fin 30} (h : Work i s t)
    (hp : ∀ r, phys s.cpsr.mode r ≠ some p) (hu : loadsUserBank i = true → ∀ r, phys .user r ≠ some p) :
    t.regs[p] = s.regs[p] := by
  induction h with
  | start => rfl
  | setReg h r v ih => exact (setReg_regs_other v (h.flagsOnly.mode ▸ hp r)).trans ih
  | setUserReg _ hi r v ih => exact (setRegIn_regs_other v (hu hi r)).trans ih
  | branch _ a ih => exact ih
  | flags _ hp ih => exact ih
  | access _ g a w k ih => exact ih
  | store _ k a v ih => rwa [store_regs]

/-- An exception entry writes R14 of the mode it enters, and no other register (R604). -/
theorem enterException_regs_other {s : State} {e : Exc} {p : Fin 30} (lr : Word) (h : phys e.mode 14#4 ≠ some p) :
    (s.enterException e lr).regs[p] = s.regs[p] := by
  unfold State.enterException
  exact setReg_regs_other lr h

@[simp] theorem msrWrite_regs (s : State) (R : Bool) (f : BitVec 4) (op : Word) :
    (s.msrWrite R f op).regs = s.regs := by
  unfold State.msrWrite
  split
  · split <;> rfl
  · rfl

theorem Effect.regs_other {i : Instr} {s t : State} {p : Fin 30} (h : Effect i s t)
    (hp : ∀ r, phys s.cpsr.mode r ≠ some p) (hsvc : phys .svc 14#4 ≠ some p) (hund : phys .und 14#4 ≠ some p)
    (hu : loadsUserBank i = true → ∀ r, phys .user r ≠ some p) : t.regs[p] = s.regs[p] := by
  induction h with
  | work h => exact h.regs_other hp hu
  | restore h a => rw [branch_regs, restoreCpsr_regs]; exact h.regs_other hp hu
  | msr R f op => rw [msrWrite_regs]
  | exchange v => rfl
  | swi _ => exact enterException_regs_other _ hsvc
  | undefined _ => exact enterException_regs_other _ hund
  | internal _ k ih => exact ih

theorem mem_regList_iff (l : BitVec 16) (r : RegNo) : r ∈ regList l ↔ l.getLsbD r.toNat = true := by
  unfold regList
  simp only [List.mem_map, List.mem_filter, List.mem_range]
  constructor
  · rintro ⟨n, ⟨hn, hl⟩, rfl⟩
    rwa [BitVec.toNat_ofNat, Nat.mod_eq_of_lt hn]
  · exact fun h => ⟨r.toNat, ⟨r.isLt, h⟩, BitVec.eq_of_toNat_eq (by simp)⟩

/-- The registers of a block transfer are those that the statements say it moves. -/
theorem inList_eq_moves (l : BitVec 16) (r : RegNo) : inList l r = moves l r.toNat := by
  unfold inList blockRegs moves
  rw [Bool.eq_iff_iff, List.contains_iff_mem]
  split
  · rw [List.mem_singleton, beq_iff_eq, ← BitVec.toNat_inj]; rfl
  · exact mem_regList_iff l r

theorem loadsUserBank_iff (i : Instr) :
    loadsUserBank i = true ↔ ∃ c a u w rn l, moves l 15 = false ∧ i = .ldm c a u true w rn l := by
  constructor
  · unfold loadsUserBank
    split
    next c p u S w rn l =>
      intro h
      obtain ⟨hS, hl⟩ := Bool.and_eq_true_iff.mp h
      exact ⟨c, p, u, w, rn, l, (inList_eq_moves l 15#4).symm.trans (by simpa using hl), by rw [hS]⟩
    · exact Bool.false_ne_true.elim
  · rintro ⟨c, a, u, w, rn, l, hl, rfl⟩
    show (true && !inList l 15#4) = true
    rw [(inList_eq_moves l 15#4).trans hl]; rfl

/-- Settles O48: by what an instruction can do; only the LDM that the statement exempts writes the User bank. -/
theorem bankIsolation : Obligations.BankIsolation := by
  intro i s t p ht hp hsvc hund hldm
  obtain ⟨t', ht', heff⟩ := exec_does i s
  obtain rfl : t' = t := Host.Outcome.next.inj (ht'.symm.trans ht)
  refine heff.regs_other hp hsvc hund fun hi => ?_
  obtain ⟨c, a, u, w, rn, l, hl, rfl⟩ := (loadsUserBank_iff i).mp hi
  exact hldm.resolve_left fun h => h c a u w rn l hl rfl


end Sys2Proof.Machine
end

section
/-! Proofs of the statements about 10_state.md, third part: the reset states (R68, R69), the interrupt controller (R61,
R631 to R634), the bubble (R56) and the instruction step (R54). -/

namespace Sys2Proof.Machine

open Sys2Proof.Spec

/-! ## Reset -/

/-- Settles O47: both states are literals. -/
theorem resetValues : Obligations.ResetValues := by
  refine ⟨?_, ?_⟩
  · refine ⟨by decide, by decide, by decide, rfl, rfl, rfl, rfl, rfl, rfl, rfl, rfl, by decide, rfl, rfl, rfl, rfl,
      by decide, by decide, rfl, rfl, rfl⟩
  · exact ⟨by decide, rfl, rfl, by decide, by decide, by decide, by decide, rfl⟩

/-! ## Interrupt controller -/

/-- Some source is enabled and requested exactly when the two masks share a bit. -/
theorem pending_ne_zero_iff (q : IrqCtl) :
    q.pending ≠ 0 ↔ ∃ b < 14, q.ie.getLsbD b = true ∧ q.ifl.getLsbD b = true := by
  constructor
  · intro h
    by_contra hc
    refine h (BitVec.eq_of_getLsbD_eq fun b hb => ?_)
    have hb' : ¬(q.ie.getLsbD b = true ∧ q.ifl.getLsbD b = true) := fun k => hc ⟨b, hb, k⟩
    simpa [IrqCtl.pending] using hb'
  · rintro ⟨b, -, hie, hifl⟩ h
    have hb := congrArg (·.getLsbD b) h
    simp [IrqCtl.pending, hie, hifl] at hb

theorem irqLine_iff (s : State) : s.irqLine = true ↔ s.irq.pending ≠ 0 ∧ s.irq.ime = true := by
  unfold State.irqLine
  rw [Bool.and_eq_true, bne_iff_ne]

/-- Settles O51: the operations bit by bit, and the line by `pending_ne_zero_iff`. -/
theorem irqController : Obligations.IrqController := by
  intro s mask flag
  refine ⟨⟨rfl, rfl, rfl, fun b _ => BitVec.getLsbD_or⟩, ⟨rfl, rfl, rfl, fun b hb => ?_⟩, rfl, rfl, ?_⟩
  · show (s.irq.ifl &&& ~~~mask).getLsbD b = _
    rw [BitVec.getLsbD_and, BitVec.getLsbD_not, decide_eq_true hb, Bool.true_and]
  · rw [irqLine_iff, pending_ne_zero_iff]

/-! ## Fetches -/

/-- A halfword is fetched zero-extended, a word byte by byte (R59, R103). -/
theorem fetchValue_eq_fetched (s : State) : s.fetchValue = fetched s := by
  unfold State.fetchValue fetched
  split
  · exact BitVec.setWidth_eq_append (by decide)
  · rfl

theorem sequential_eq (s : State) (g : Agent) (a : Word) (w : Width) :
    s.sequential g a w = decide (s.busLast = some ⟨g, a - BitVec.ofNat 32 w.bytes, w⟩) := by
  unfold State.sequential
  exact Bool.eq_iff_iff.mpr (by rw [beq_iff_eq, decide_eq_true_iff])

theorem fetch_eq_afterFetch (s : State) : s.fetch = afterFetch s := by
  unfold State.fetch afterFetch State.access State.fetchWidth cost
  rw [sequential_eq, fetchValue_eq_fetched]

theorem beginInstr_eq_afterFetch (s : State) : s.beginInstr = afterFetch { s with userLdm := false } := by
  unfold State.beginInstr
  rw [fetch_eq_afterFetch]; rfl

/-! ## The dispatch of a step -/

/-- With no event due the external inputs change nothing (R657). -/
theorem deliverEnv_of_none_due {s : State} (h : ∀ x ∈ s.env, s.clock < x.1) : s.deliverEnv = s := by
  have hdue : ∀ x ∈ s.env, dueAt s.clock x = false := fun x hx => decide_eq_false (Nat.not_le.mpr (h x hx))
  have hnone : s.env.filter (dueAt s.clock) = [] :=
    List.filter_eq_nil_iff.mpr fun x hx => by rw [hdue x hx]; exact Bool.false_ne_true
  have hall : (s.env.filter fun x => !dueAt s.clock x) = s.env :=
    List.filter_eq_self.mpr fun x hx => by rw [hdue x hx]; rfl
  unfold State.deliverEnv
  rw [hnone, hall]; rfl

theorem step_bubble {s : State} (hq : Quiet s) (hb : s.bubble ≠ 0) : step s = .next s.bubbleStep.settle := by
  obtain ⟨henv, hstop, harm⟩ := hq
  unfold step dispatchStep dispatchRest
  rw [deliverEnv_of_none_due henv, hstop, harm, if_neg Bool.false_ne_true]
  exact if_pos hb

/-- The CPU's turn: a bubble or a HALT does not come before the interrupt test. -/
theorem step_cpuTurn {s : State} (h : CpuTurn s) : step s = irqOrInstr { s with halted := false } := by
  obtain ⟨⟨henv, hstop, harm⟩, hb, hhalt⟩ := h
  have hrun : (s.halted && !s.haltWake) = false := by
    cases hh : s.halted
    · rfl
    · have hp : (s.irq.pending != 0) = true := bne_iff_ne.mpr (hhalt hh)
      unfold State.haltWake haltWakeUnder
      rw [hp]; simp [Config.haltWakeNeedsIme]
  unfold step dispatchStep dispatchRest haltOrRun
  rw [deliverEnv_of_none_due henv, hstop, harm, if_neg Bool.false_ne_true, hb, hrun]
  simp

theorem irqLine_iff_irqRaised (s : State) : s.irqLine = true ↔ IrqRaised s := irqLine_iff s

theorem irqOrInstr_of_not_taken {s : State} (h : ¬(IrqRaised s ∧ s.cpsr.i = false)) :
    irqOrInstr s = normalStep s := by
  unfold irqOrInstr
  refine if_neg fun k => h ?_
  rw [Bool.and_eq_true, irqLine_iff_irqRaised] at k
  exact ⟨k.1, by simpa using k.2⟩

/-- The instruction step (R54) once the instruction has answered. -/
theorem normalStep_of_next {s t : State} (h : exec (slotInstr s.cpsr.t s.slotExec) s.beginInstr = .next t) :
    normalStep s = .next (t.endInstr s.w s.fetchValue).settle := by
  unfold normalStep
  simp [h]

/-- Settles O41: the dispatch comes down to `normalStep`, and every instruction answers a next state. -/
theorem stepRunsInstruction : Obligations.StepRunsInstruction := by
  intro s hturn hirq
  obtain ⟨t, ht, -⟩ := exec_does (slotInstr s.cpsr.t s.slotExec) ({ s with halted := false } : State).beginInstr
  refine ⟨t, ?_, ?_⟩
  · rw [beginInstr_eq_afterFetch] at ht
    exact ht
  · rw [step_cpuTurn hturn, irqOrInstr_of_not_taken (s := { s with halted := false }) hirq, normalStep_of_next ht,
      fetchValue_eq_fetched]
    rfl

/-! ## The bubble -/

@[simp] theorem bubbleStep_pc (s : State) : s.bubbleStep.pc = s.pc + width s := rfl

@[simp] theorem bubbleStep_slotExec (s : State) : s.bubbleStep.slotExec = s.slotDecode := rfl

@[simp] theorem bubbleStep_slotDecode (s : State) : s.bubbleStep.slotDecode = fetched s := fetchValue_eq_fetched s

@[simp] theorem bubbleStep_lastFetch (s : State) : s.bubbleStep.lastFetch = fetched s := fetchValue_eq_fetched s

@[simp] theorem bubbleStep_bubble (s : State) : s.bubbleStep.bubble = bubbleLess s.bubble := rfl

@[simp] theorem bubbleStep_regs (s : State) : s.bubbleStep.regs = s.regs := rfl
@[simp] theorem bubbleStep_cpsr (s : State) : s.bubbleStep.cpsr = s.cpsr := rfl
@[simp] theorem bubbleStep_spsr (s : State) : s.bubbleStep.spsr = s.spsr := rfl
@[simp] theorem bubbleStep_stopped (s : State) : s.bubbleStep.stopped = s.stopped := rfl
@[simp] theorem bubbleStep_armed (s : State) : s.bubbleStep.armed = s.armed := rfl
@[simp] theorem bubbleStep_mem (s : State) : s.bubbleStep.mem = s.mem := rfl
@[simp] theorem bubbleStep_env (s : State) : s.bubbleStep.env = s.env := rfl

theorem quiet_of_no_events {s : State} (henv : s.env = []) (hstop : s.stopped = false) (harm : s.armed = none) :
    Quiet s :=
  ⟨by rw [henv]; exact fun _ h => absurd h List.not_mem_nil, hstop, harm⟩

/-- Settles O42: two bubble steps, one after the other. -/
theorem bubbleRefill : Obligations.BubbleRefill := by
  intro s henv hstop harm hb
  have hb1 : s.bubbleStep.settle.bubble = 1 := by rw [settle_bubble, bubbleStep_bubble, hb]; rfl
  have hw : width s.bubbleStep.settle = width s := by unfold width; rw [settle_cpsr, bubbleStep_cpsr]
  have step1 : step s = .next s.bubbleStep.settle :=
    step_bubble (quiet_of_no_events henv hstop harm) (by rw [hb]; decide)
  have step2 : step s.bubbleStep.settle = .next s.bubbleStep.settle.bubbleStep.settle :=
    step_bubble (quiet_of_no_events (by simpa using henv) (by simpa using hstop) (by simpa using harm))
      (by rw [hb1]; decide)
  refine ⟨_, _, step1, step2, hb1, ?_⟩
  simp [hb, hw, bubbleLess]


end Sys2Proof.Machine
end

section
/-! Proofs of the statements about 10_state.md, fourth part: the DMA channels and the timers keep their consistency
(R714, R730, R731, R740 to R742, R777) through every operation on them. -/

namespace Sys2Proof.Machine

/-! ## Four like things -/

theorem Quad.get_set {α : Type} (q : Quad α) (n m : Fin 4) (a : α) :
    (q.set n a).get m = if m = n then a else q.get m := by
  fin_cases n <;> fin_cases m <;> rfl

/-- A property of every one of four holds still after one is replaced by another that has it. -/
theorem Quad.forall_set {α : Type} {P : Fin 4 → α → Prop} {q : Quad α} {n : Fin 4} {a : α}
    (h : ∀ m, P m (q.get m)) (ha : P n a) (m : Fin 4) : P m ((q.set n a).get m) := by
  rw [Quad.get_set]
  split
  next hm => exact hm ▸ ha
  · exact h m

/-! ## Masks -/

/-- A mask is inside another when no bit of it is outside. -/
theorem and_not_eq_zero_iff {w : Nat} (a b : BitVec w) :
    a &&& ~~~b = 0 ↔ ∀ j, a.getLsbD j = true → b.getLsbD j = true := by
  constructor
  · intro h j ha
    have hj := congrArg (·.getLsbD j) h
    have hlt : j < w := BitVec.lt_of_getLsbD ha
    simpa [ha, hlt] using hj
  · intro h
    refine BitVec.eq_of_getLsbD_eq fun j hj => ?_
    cases ha : a.getLsbD j
    · simp [ha]
    · simp [ha, h j ha]

theorem and_and_not_self {w : Nat} (a b : BitVec w) : a &&& b &&& ~~~b = 0 := by
  rw [and_not_eq_zero_iff]
  intro j h
  rw [BitVec.getLsbD_and, Bool.and_eq_true] at h
  exact h.2

/-! ## One DMA channel -/

/-- Two trigger types of one channel that share a bit are the same type (R740). -/
theorem dmaTypeBit_inj {n : Fin 4} {t u : BitVec 2} (h : dmaTypeBit n t &&& dmaTypeBit n u ≠ 0) : t = u := by
  revert n t u; decide

/-- Bit 3 of a trigger mask is the special type of a channel with a FIFO (R740, R748). -/
theorem dmaTypeBit_special {n : Fin 4} (h : fifoChannel n = true) (t : BitVec 2) :
    dmaTypeBit n t = 8#4 ∧ t = 3#2 ∨ (dmaTypeBit n t).getLsbD 3 = false ∧ t ≠ 3#2 := by
  revert n t; decide

theorem zero_getLsbD_three : (0 : BitVec 4).getLsbD 3 ≠ true := by decide

theorem getLsbD_three_of_and_ne_zero {p : BitVec 4} (h : p &&& 8#4 ≠ 0) : p.getLsbD 3 = true := by
  revert p; decide

section Channel

variable {n : Fin 4} {c : DmaChannel}

/-- A channel that enables the type of a trigger is enabled for just that type. -/
theorem DmaChannel.Ok.enabledMask_eq (h : c.Ok n) {t : BitVec 2} (ht : c.enabledMask &&& dmaTypeBit n t ≠ 0) :
    c.enabledMask = dmaTypeBit n t := by
  have he := h.armedTypes
  split at he
  · rw [he] at ht ⊢
    rw [dmaTypeBit_inj ht]
  · rw [he] at ht
    exact absurd BitVec.zero_and ht

theorem DmaChannel.Ok.trigger (h : c.Ok n) (t : BitVec 2) : (c.trigger n t).Ok n := by
  unfold DmaChannel.trigger
  dsimp only
  split
  · exact h
  next hb =>
    have he := h.enabledMask_eq hb
    refine { h with onlyArmed := ?_, fifoLeft := ?_ }
    · have hp := h.onlyArmed
      rw [and_not_eq_zero_iff, he] at *
      intro j hj
      rw [BitVec.getLsbD_or, Bool.or_eq_true] at hj
      exact hj.elim (hp j) id
    · intro hf hbit
      dsimp only at hbit ⊢
      obtain ⟨h8, rfl⟩ | ⟨h0, ht⟩ := dmaTypeBit_special hf t
      · rw [h8]
        split
        · decide
        next hold =>
          have hp : c.pendingMask &&& 8#4 ≠ 0 := by simpa [hf] using hold
          exact h.fifoLeft hf (getLsbD_three_of_and_ne_zero hp)
      · rw [BitVec.getLsbD_or, h0, Bool.or_false] at hbit
        simpa [ht] using h.fifoLeft hf hbit

/-- The timing of a control word is not among the bits that read 0. -/
theorem ctlTiming_mask (x : Half) : ctlTiming (x &&& 0xFFE0) = ctlTiming x := by
  unfold ctlTiming
  ext j hj
  interval_cases j <;> simp

theorem DmaChannel.Ok.writeCtl (h : c.Ok n) (new : Half) : (c.writeCtl n new).Ok n := by
  have hun : new &&& 0xFFE0 &&& 0x1F = 0 := by rw [BitVec.and_assoc]; exact BitVec.and_zero
  have hen : (new &&& 0xFFE0).getLsbD 15 = new.getLsbD 15 := by simp
  unfold DmaChannel.writeCtl
  dsimp only
  split
  next hnew =>
    split
    · refine { h with unused := hun, armedTypes := ?_, onlyArmed := and_and_not_self _ _, fifoLeft := fun hf hb => ?_ }
      · simp only [hen, hnew, ctlTiming_mask, if_true]
      · simp only [BitVec.getLsbD_and, Bool.and_eq_true] at hb
        exact h.fifoLeft hf hb.1
    · refine
        { unused := hun, armedTypes := ?_, onlyArmed := BitVec.zero_and, srcRange := and_and_not_self _ _,
          dstRange := and_and_not_self _ _, cntRange := and_and_not_self _ _,
          fifoLeft := fun _ hb => absurd hb zero_getLsbD_three }
      simp only [hen, hnew, ctlTiming_mask, if_true]
  next hnew =>
    refine
      { h with
        unused := hun, armedTypes := ?_, onlyArmed := BitVec.zero_and,
        fifoLeft := fun _ hb => absurd hb zero_getLsbD_three }
    exact (if_neg (by rw [hen]; exact hnew)).symm

theorem DmaChannel.Ok.advance (h : c.Ok n) (size : Word) (fifo : Bool) : (c.advance n size fifo).Ok n :=
  { h with srcRange := and_and_not_self _ _, dstRange := and_and_not_self _ _ }

/-- Only the type of the control word is ever pending. -/
theorem DmaChannel.Ok.onlyTiming (h : c.Ok n) : c.pendingMask &&& ~~~dmaTypeBit n (ctlTiming c.ctl) = 0 := by
  have hp := h.onlyArmed
  rw [h.armedTypes] at hp
  split at hp
  · exact hp
  · rw [and_not_eq_zero_iff] at *
    exact fun j hj => absurd (hp j hj) (by simp)

/-- The end of a transfer leaves no trigger pending, so the number of FIFO units left does not matter (R747). -/
theorem DmaChannel.Ok.finish (h : c.Ok n) (k : BitVec 16) (u : Fin 5) (hk : k &&& ~~~dmaCntMask n = 0) (fifo : Bool) :
    (({ c with cntShadow := k, fifoUnits := u } : DmaChannel).finish n fifo).Ok n := by
  unfold DmaChannel.finish
  dsimp only
  split
  · rw [h.onlyTiming]
    refine
      { h with
        onlyArmed := BitVec.zero_and, dstRange := ?_, cntRange := ?_,
        fifoLeft := fun _ hb => absurd hb zero_getLsbD_three }
    · dsimp only; split
      · exact and_and_not_self _ _
      · exact h.dstRange
    · dsimp only; split
      · exact hk
      · exact and_and_not_self _ _
  · refine
      { h with
        unused := ?_, armedTypes := ?_, onlyArmed := BitVec.zero_and, cntRange := hk,
        fifoLeft := fun _ hb => absurd hb zero_getLsbD_three }
    · rw [BitVec.and_assoc, BitVec.and_comm 0x7FFF, ← BitVec.and_assoc, h.unused]; exact BitVec.zero_and
    · simp

end Channel

/-! ## The devices of a state -/

/-- The invariant of the devices inside a step. A write to a timer's control can shorten the tick below what its
accumulator holds (R763), so before the clocks are charged only the longest tick bounds the accumulator. -/
structure State.DevicesOk (s : State) : Prop where
  arbitrated : s.armed = dmaWinner s.dma
  dma : ∀ n, (s.dma.get n).Ok n
  timers : ∀ n, (s.timers.get n).precounter.toNat < 1024

section Devices

variable {s t : State}

theorem State.DevicesOk.congr (h : s.DevicesOk) (ha : t.armed = s.armed := by rfl) (hd : t.dma = s.dma := by rfl)
    (ht : t.timers = s.timers := by rfl) : t.DevicesOk where
  arbitrated := by rw [ha, hd]; exact h.arbitrated
  dma := by rw [hd]; exact h.dma
  timers := by rw [ht]; exact h.timers

/-- Arbitration arms the lowest-numbered ready channel, whatever was armed before. -/
theorem arbitrate_devicesOk (hd : ∀ n, (s.dma.get n).Ok n) (ht : ∀ n, (s.timers.get n).precounter.toNat < 1024) :
    s.arbitrate.DevicesOk :=
  ⟨rfl, hd, ht⟩

/-- A change of one channel that is followed by arbitration. -/
theorem State.DevicesOk.setDma_arbitrate (h : s.DevicesOk) {n : Fin 4} {c : DmaChannel} (hc : c.Ok n) :
    (s.setDma n c).arbitrate.DevicesOk :=
  arbitrate_devicesOk (Quad.forall_set h.dma hc) h.timers

/-- Arbitration looks at which channels are ready, and at nothing else of them. -/
theorem dmaWinner_congr {q r : Quad DmaChannel} (h : ∀ m, (q.get m).ready = (r.get m).ready) :
    dmaWinner q = dmaWinner r := by
  have h0 : q.q0.ready = r.q0.ready := h 0
  have h1 : q.q1.ready = r.q1.ready := h 1
  have h2 : q.q2.ready = r.q2.ready := h 2
  have h3 : q.q3.ready = r.q3.ready := h 3
  unfold dmaWinner
  rw [h0, h1, h2, h3]

theorem dmaWinner_set {q : Quad DmaChannel} {n : Fin 4} {c : DmaChannel} (h : c.ready = (q.get n).ready) :
    dmaWinner (q.set n c) = dmaWinner q :=
  dmaWinner_congr fun m => by
    rw [Quad.get_set]
    split
    next hm => rw [hm, h]
    · rfl

/-- A change of one channel that does not touch its triggers needs no arbitration. -/
theorem State.DevicesOk.setDma (h : s.DevicesOk) {n : Fin 4} {c : DmaChannel} (hc : c.Ok n)
    (hr : c.ready = (s.dma.get n).ready) : (s.setDma n c).DevicesOk :=
  ⟨h.arbitrated.trans (dmaWinner_set hr).symm, Quad.forall_set h.dma hc, h.timers⟩

theorem State.DevicesOk.requestTrigger (h : s.DevicesOk) (n : Fin 4) (t : BitVec 2) :
    (s.requestTrigger n t).DevicesOk :=
  h.setDma_arbitrate ((h.dma n).trigger t)

theorem State.DevicesOk.writeDmaCtl (h : s.DevicesOk) (n : Fin 4) (new : Half) : (s.writeDmaCtl n new).DevicesOk := by
  have hc := (h.dma n).writeCtl new
  unfold State.writeDmaCtl
  dsimp only
  split
  · refine arbitrate_devicesOk (Quad.forall_set (Quad.forall_set h.dma hc) (DmaChannel.Ok.trigger ?_ 0#2)) h.timers
    exact Quad.forall_set h.dma hc n
  · exact h.setDma_arbitrate hc

theorem State.DevicesOk.setTimer (h : s.DevicesOk) {n : Fin 4} {t : Timer} (ht : t.precounter.toNat < 1024) :
    (s.setTimer n t).DevicesOk :=
  ⟨h.arbitrated, h.dma, Quad.forall_set (P := fun _ (t : Timer) => t.precounter.toNat < 1024) h.timers ht⟩

theorem State.DevicesOk.finalizeDma (h : s.DevicesOk) {n : Fin 4} {c : DmaChannel} {fifo : Bool}
    (hc : (c.finish n fifo).Ok n) : ((s.setDma n c).finalizeDma n fifo).DevicesOk := by
  have hget : ((s.setDma n c).dma.get n) = c := (Quad.get_set s.dma n n c).trans (if_pos rfl)
  have hdma : ∀ m, (((s.dma.set n c).set n (c.finish n fifo)).get m).Ok m := fun m => by
    rw [Quad.get_set, Quad.get_set]
    split
    next hm => exact hm ▸ hc
    · exact h.dma m
  unfold State.finalizeDma
  rw [hget]
  dsimp only
  split
  · exact arbitrate_devicesOk hdma h.timers
  · exact arbitrate_devicesOk hdma h.timers

/-! ## Register writes -/

theorem Timer.writeCtl_belowMax {t : Timer} (h : t.precounter.toNat < 1024) (new : Half) :
    (t.writeCtl new).precounter.toNat < 1024 := by
  unfold Timer.writeCtl
  dsimp only
  split
  · decide
  · exact h

theorem State.DevicesOk.ioRegWrite (h : s.DevicesOk) (r : IoReg) (new ones : Word) :
    (r.write s new ones).DevicesOk := by
  cases r with
  | dmaSad n => exact h.setDma { h.dma n with } rfl
  | dmaDad n => exact h.setDma { h.dma n with } rfl
  | dmaCntL n => exact h.setDma { h.dma n with } rfl
  | dmaCntH n => exact h.writeDmaCtl n _
  | tmCntL n => exact h.setTimer (h.timers n)
  | tmCntH n => exact h.setTimer (Timer.writeCtl_belowMax (h.timers n) _)
  | haltcnt =>
    unfold IoReg.write State.haltOp
    dsimp only
    split
    · exact h.congr
    · split
      · exact h
      · exact h.congr
  | _ => exact h.congr

theorem State.DevicesOk.ioWrite (h : s.DevicesOk) (a k : Nat) (v : Word) : (s.ioWrite a k v).DevicesOk := by
  unfold State.ioWrite
  generalize IoReg.all = l
  induction l generalizing s with
  | nil => exact h
  | cons r l ih =>
    refine ih (s := r.writeLanes a k v s) ?_
    unfold IoReg.writeLanes
    dsimp only
    split
    · exact h
    · exact h.ioRegWrite r _ _

theorem State.DevicesOk.writeBytes (h : s.DevicesOk) (a k : Nat) (v : Word) : (s.writeBytes a k v).DevicesOk := by
  unfold State.writeBytes
  dsimp only
  split
  · exact (h.ioWrite a k v).congr
  · exact h.congr

theorem State.DevicesOk.access (h : s.DevicesOk) (g : Agent) (a : Word) (w : Width) (k : AccessKind) :
    (s.access g a w k).DevicesOk :=
  h.congr

theorem State.DevicesOk.store (h : s.DevicesOk) (k : StoreKind) (a v : Word) : (s.store k a v).DevicesOk :=
  (h.access _ _ _ _).writeBytes _ _ _

/-! ## The DMA unit -/

theorem State.DevicesOk.unitMove (h : s.DevicesOk) (n : Fin 4) : (s.unitMove n).DevicesOk := by
  unfold State.unitMove
  dsimp only
  split
  · exact (((h.access _ _ _ _).access _ _ _ _).writeBytes _ _ _).congr
  · exact (((h.access _ _ _ _).access _ _ _ _).writeBytes _ _ _).congr

/-- What counting down changes: the count, inside its range, or the number of FIFO units, which is then not 0 unless
the block is done (R745). -/
theorem DmaChannel.Ok.countDown {n : Fin 4} {c : DmaChannel} (h : c.Ok n) (fifo : Bool) :
    ∃ k u, (c.countDown n fifo).1 = { c with cntShadow := k, fifoUnits := u } ∧ k &&& ~~~dmaCntMask n = 0 ∧
      ((c.countDown n fifo).2 = false → (c.countDown n fifo).1.Ok n) := by
  unfold DmaChannel.countDown
  dsimp only
  split
  · refine ⟨c.cntShadow, _, rfl, h.cntRange, fun hu => { h with fifoLeft := fun _ _ hz => ?_ }⟩
    dsimp only at hu hz
    have hlt := c.fifoUnits.isLt
    have hv := congrArg Fin.val hz
    simp at hu hv
    omega
  · exact ⟨_, c.fifoUnits, rfl, and_and_not_self _ _, fun _ => { h with cntRange := and_and_not_self _ _ }⟩

/-- A unit keeps the devices consistent also when it writes to the registers of its own channel: the write does, and the
counting starts from what it left. -/
theorem State.DevicesOk.performUnit (h : s.DevicesOk) (n : Fin 4) : (s.performUnit n).DevicesOk := by
  have hu := h.unitMove n
  unfold State.performUnit
  dsimp only
  generalize (s.dma.get n).fifoMode n = fifo
  generalize unitSize ((s.dma.get n).wordUnit n) = size
  have hc := (hu.dma n).advance size fifo
  obtain ⟨k, u, hx, hk, hok⟩ := hc.countDown fifo
  split
  · rw [hx]
    exact hu.finalizeDma (hc.finish k u hk fifo)
  next hdone => exact hu.setDma (hok (by simpa using hdone)) (by rw [hx]; rfl)

end Devices

/-! ## The timers -/

theorem prescaleShift_le (p : BitVec 2) : prescaleShift p ≤ 10 := by
  unfold prescaleShift
  split_ifs <;> decide

/-- A timer that differs from `t` in the counter only. -/
def Timer.CounterOnly (t u : Timer) : Prop := u = { t with counter := u.counter }

theorem Timer.CounterOnly.refl (t : Timer) : t.CounterOnly t := rfl

theorem Timer.CounterOnly.trans {t u v : Timer} (h : t.CounterOnly u) (k : u.CounterOnly v) : t.CounterOnly v := by
  unfold Timer.CounterOnly at *; rw [k, h]

theorem Timer.CounterOnly.precounter {t u : Timer} (h : t.CounterOnly u) : u.precounter = t.precounter :=
  (congrArg Timer.precounter h).trans rfl

/-- The consistency of a timer does not speak of its counter. -/
theorem Timer.CounterOnly.ok {n : Fin 4} {t u : Timer} (h : t.CounterOnly u) (k : t.Ok n) : u.Ok n := by
  rw [h]
  exact ⟨k.belowTick, k.belowMax⟩

/-- Ticks count, and change nothing else of any timer (R771). -/
def CountersOnly (s t : State) : Prop := ∀ m, (s.timers.get m).CounterOnly (t.timers.get m)

theorem CountersOnly.refl (s : State) : CountersOnly s s := fun _ => .refl _

theorem CountersOnly.trans {s t u : State} (h : CountersOnly s t) (k : CountersOnly t u) : CountersOnly s u :=
  fun m => (h m).trans (k m)

theorem setTimer_timers_get (s : State) (n m : Fin 4) (t : Timer) :
    (s.setTimer n t).timers.get m = if m = n then t else s.timers.get m :=
  Quad.get_set s.timers n m t

theorem setTimer_countersOnly (s : State) (n : Fin 4) (x : Half) :
    CountersOnly s (s.setTimer n { s.timers.get n with counter := x }) := fun m => by
  rw [setTimer_timers_get]
  split
  next hm => subst hm; exact rfl
  · exact .refl _

theorem overflowEffects_timers (s : State) (n : Fin 4) : (s.overflowEffects n).timers = s.timers := by
  unfold State.overflowEffects
  dsimp only
  split <;> rfl

theorem tickWith_countersOnly {f : State → State} (hf : ∀ s, CountersOnly s (f s)) (n : Fin 4) (s : State) :
    CountersOnly s (tickWith f n s) := by
  unfold tickWith
  dsimp only
  split
  · refine CountersOnly.trans ?_ (hf _)
    intro m
    rw [overflowEffects_timers]
    exact setTimer_countersOnly s n _ m
  · exact setTimer_countersOnly s n _

theorem cascadeInto_countersOnly (n : Fin 4) {f : State → State} (hf : ∀ s, CountersOnly s (f s)) (s : State) :
    CountersOnly s (cascadeInto n f s) := by
  unfold cascadeInto
  split
  · exact hf s
  · exact .refl s

/-- A tick goes up the cascade timer by timer (R772). -/
theorem tick_countersOnly (s : State) (n : Fin 4) : CountersOnly s (s.tick n) := by
  have h3 : ∀ s, CountersOnly s (tick3 s) := tickWith_countersOnly .refl 3
  have h2 : ∀ s, CountersOnly s (tick2 s) := tickWith_countersOnly (cascadeInto_countersOnly 3 h3) 2
  have h1 : ∀ s, CountersOnly s (tick1 s) := tickWith_countersOnly (cascadeInto_countersOnly 2 h2) 1
  have h0 : ∀ s, CountersOnly s (tick0 s) := tickWith_countersOnly (cascadeInto_countersOnly 1 h1) 0
  unfold State.tick
  split
  · exact h0 s
  · exact h1 s
  · exact h2 s
  · exact h3 s

theorem ticks_countersOnly (s : State) (n : Fin 4) (k : Nat) : CountersOnly s (s.ticks n k) := by
  induction k with
  | zero => exact .refl s
  | succ k ih => exact ih.trans (tick_countersOnly _ n)

/-- A remainder stays below its divisor as a word. -/
theorem ofNat_mod_lt {d : Nat} (hd : 0 < d) (k : Nat) : (BitVec.ofNat 32 (k % d)).toNat < d := by
  rw [BitVec.toNat_ofNat]
  exact (Nat.mod_le _ _).trans_lt (Nat.mod_lt k hd)

/-- The clocks of a step leave a timer that counts them below one tick, whatever it held before (R770, R777). -/
theorem timerClocks_ok_same {s : State} {n : Fin 4} (h : (s.timers.get n).precounter.toNat < 1024) (c : Nat) :
    ((s.timerClocks n c).timers.get n).Ok n := by
  unfold State.timerClocks
  dsimp only
  split
  · refine (ticks_countersOnly _ n _ n).ok ?_
    rw [setTimer_timers_get, if_pos rfl]
    have hlt := ofNat_mod_lt (Nat.two_pow_pos (prescaleShift (s.timers.get n).prescale))
      ((s.timers.get n).precounter.toNat + c)
    exact ⟨fun _ => hlt, hlt.trans_le (Nat.pow_le_pow_right (by decide) (prescaleShift_le _))⟩
  next hcl => exact ⟨fun k => absurd k hcl, h⟩

/-- The clocks of one timer change no other timer but its counter. -/
theorem timerClocks_counterOnly (s : State) {n m : Fin 4} (c : Nat) (h : m ≠ n) :
    (s.timers.get m).CounterOnly ((s.timerClocks n c).timers.get m) := by
  unfold State.timerClocks
  dsimp only
  split
  · refine Timer.CounterOnly.trans ?_ (ticks_countersOnly _ n _ m)
    rw [setTimer_timers_get, if_neg h]
    exact .refl _
  · exact .refl _

theorem timerClocks_keeps_ok {s : State} {m : Fin 4} (h : (s.timers.get m).Ok m) (n : Fin 4) (c : Nat) :
    ((s.timerClocks n c).timers.get m).Ok m := by
  by_cases hm : m = n
  · subst hm
    exact timerClocks_ok_same h.belowMax c
  · exact (timerClocks_counterOnly s c hm).ok h

theorem timerClocks_belowMax_other {s : State} {n m : Fin 4} (h : (s.timers.get m).precounter.toNat < 1024) (c : Nat)
    (hm : m ≠ n) : ((s.timerClocks n c).timers.get m).precounter.toNat < 1024 := by
  rwa [(timerClocks_counterOnly s c hm).precounter]

/-- Charging the clocks of a step brings every accumulator below its tick (R770, R777). -/
theorem timerAdvance_ok {s : State} (h : ∀ n, (s.timers.get n).precounter.toNat < 1024) (c : Nat) (n : Fin 4) :
    ((s.timerAdvance c).timers.get n).Ok n := by
  unfold State.timerAdvance
  match n with
  | 0 =>
    exact timerClocks_keeps_ok (timerClocks_keeps_ok (timerClocks_keeps_ok (timerClocks_ok_same (h 0) c) 1 c) 2 c) 3 c
  | 1 =>
    refine timerClocks_keeps_ok (timerClocks_keeps_ok (timerClocks_ok_same ?_ c) 2 c) 3 c
    exact timerClocks_belowMax_other (h 1) c (by decide)
  | 2 =>
    refine timerClocks_keeps_ok (timerClocks_ok_same ?_ c) 3 c
    exact timerClocks_belowMax_other (timerClocks_belowMax_other (h 2) c (by decide)) c (by decide)
  | 3 =>
    refine timerClocks_ok_same ?_ c
    refine timerClocks_belowMax_other (timerClocks_belowMax_other ?_ c (by decide)) c (by decide)
    exact timerClocks_belowMax_other (h 3) c (by decide)

end Sys2Proof.Machine
end

section
/-! Proofs of the statements about 10_state.md, fifth part: every step keeps the invariant (R53, R58, R59, R741, R777).
`InvInStep` is the invariant while the clocks of a step are still to be charged; every operation keeps it, and `settle`
makes the invariant of it again. -/

namespace Sys2Proof.Machine

open Sys2Proof.Spec

/-! ## The pipeline -/

/-- The CPU's part of the invariant: `pc` is aligned, and in THUMB state valid prefetched words are halfwords. -/
structure State.PipeOk (s : State) : Prop where
  pcAligned : alignTarget s.cpsr.t s.pc = s.pc
  slotExecHalf : s.cpsr.t = true → s.bubble = 0 → s.slotExec.toNat < 2 ^ 16
  slotDecodeHalf : s.cpsr.t = true → s.bubble ≠ 2 → s.slotDecode.toNat < 2 ^ 16

/-- The invariant inside a step. -/
structure State.InvInStep (s : State) : Prop where
  memory : Memory.wf s.mem = true
  pipe : s.PipeOk
  devices : s.DevicesOk

theorem alignTarget_eq_iff (t : Bool) (a : Word) : alignTarget t a = a ↔ a.toNat % (if t then 2 else 4) = 0 := by
  rw [← BitVec.toNat_inj, alignTarget_toNat]
  cases t
  · simp only [Bool.false_eq_true, if_false]; omega
  · simp only [if_true]; omega

theorem alignTarget_alignTarget (t : Bool) (a : Word) : alignTarget t (alignTarget t a) = alignTarget t a := by
  rw [alignTarget_eq_iff, alignTarget_toNat]
  cases t
  · simp only [Bool.false_eq_true, if_false]; omega
  · simp only [if_true]; omega

/-- One instruction further `pc` is still aligned (R58). -/
theorem alignTarget_add_width {t : Bool} {a : Word} (h : alignTarget t a = a) :
    alignTarget t (a + if t then 2 else 4) = a + if t then 2 else 4 := by
  rw [alignTarget_eq_iff] at *
  cases t
  · simp only [Bool.false_eq_true, if_false] at *; bv_omega
  · simp only [if_true] at *; bv_omega

theorem fetched_half {s : State} (h : s.cpsr.t = true) : (fetched s).toNat < 2 ^ 16 := by
  rw [← fetchValue_eq_fetched]
  unfold State.fetchValue
  rw [if_pos h, BitVec.toNat_setWidth]
  exact (Nat.mod_le _ _).trans_lt (s.read16 s.pc).isLt

section Pipe

variable {s t : State}

theorem State.PipeOk.congr (h : s.PipeOk) (ht : t.cpsr.t = s.cpsr.t := by rfl) (hpc : t.pc = s.pc := by rfl)
    (hb : t.bubble = s.bubble := by rfl) (he : t.slotExec = s.slotExec := by rfl)
    (hd : t.slotDecode = s.slotDecode := by rfl) : t.PipeOk where
  pcAligned := by rw [ht, hpc]; exact h.pcAligned
  slotExecHalf := by rw [ht, hb, he]; exact h.slotExecHalf
  slotDecodeHalf := by rw [ht, hb, hd]; exact h.slotDecodeHalf

/-- A branch aligns `pc` for the instruction set it finds and makes both prefetched words invalid (R55). -/
theorem branch_pipeOk (s : State) (a : Word) : (s.branch a).PipeOk where
  pcAligned := alignTarget_alignTarget _ _
  slotExecHalf := fun _ h => absurd (show (2 : Fin 3) = 0 from h) (by decide)
  slotDecodeHalf := fun _ h => absurd rfl h

theorem State.PipeOk.setRegIn (h : s.PipeOk) (m : Mode) (r : RegNo) (v : Word) : (s.setRegIn m r v).PipeOk := by
  unfold State.setRegIn
  split
  · exact h.congr
  · exact branch_pipeOk s v

/-- The pipeline moves on by one instruction after a fetch (R54, R56). -/
theorem State.PipeOk.shift (h : s.PipeOk) {f : Word} (hf : s.cpsr.t = true → f.toNat < 2 ^ 16) {b : Fin 3}
    (hb : b = 0 → s.bubble ≠ 2) :
    ({ s.shiftPipe (if s.cpsr.t then 2 else 4) f with bubble := b } : State).PipeOk where
  pcAligned := alignTarget_add_width h.pcAligned
  slotExecHalf := fun ht hz => h.slotDecodeHalf ht (hb hz)
  slotDecodeHalf := fun ht _ => hf ht

theorem State.PipeOk.bubbleStep (h : s.PipeOk) : s.bubbleStep.PipeOk := by
  have hf : s.fetch.PipeOk := h.congr
  have hb : bubbleLess s.bubble = 0 → s.bubble ≠ 2 := by generalize s.bubble = b; revert b; decide
  exact hf.shift (fun ht => (fetchValue_eq_fetched s).symm ▸ fetched_half ht) hb

/-- The end of an instruction moves the pipeline on unless it branched; an instruction that did not branch left the
instruction set alone. -/
theorem State.PipeOk.endInstr (h : t.PipeOk) {f : Word} (ht : t.bubble = 0 → t.cpsr.t = s.cpsr.t)
    (hf : s.cpsr.t = true → f.toNat < 2 ^ 16) : (t.endInstr s.w f).PipeOk := by
  unfold State.endInstr
  split
  next hb =>
    have hw : s.w = if t.cpsr.t then 2 else 4 := by unfold State.w; rw [ht hb]
    have hs := h.shift (f := f) (b := t.bubble) (fun k => hf (ht hb ▸ k)) (fun h0 => by rw [h0]; decide)
    rw [hw]
    exact hs
  · exact h

end Pipe

/-! ## Inside a step -/

section InStep

variable {s t : State}

theorem State.Inv.inStep (h : s.Inv) : s.InvInStep where
  memory := h.memory
  pipe := ⟨h.pcAligned, h.slotExecHalf, h.slotDecodeHalf⟩
  devices := ⟨h.arbitrated, h.dma, fun n => (h.timers n).belowMax⟩

theorem State.InvInStep.congr (h : s.InvInStep) (hp : t.PipeOk) (hm : t.mem = s.mem := by rfl)
    (ha : t.armed = s.armed := by rfl) (hd : t.dma = s.dma := by rfl) (ht : t.timers = s.timers := by rfl) :
    t.InvInStep :=
  ⟨hm ▸ h.memory, hp, h.devices.congr ha hd ht⟩

/-- Charged clocks make the invariant whole: the timers advance, also by no clock at all. -/
theorem State.InvInStep.charge (h : s.InvInStep) (h0 : s.stepClocks = 0) (c : Nat) : (s.charge c).Inv where
  memory := by rw [charge_mem]; exact h.memory
  pcAligned := by rw [charge_cpsr, charge_pc]; exact h.pipe.pcAligned
  slotExecHalf := by rw [charge_cpsr, charge_bubble, charge_slotExec]; exact h.pipe.slotExecHalf
  slotDecodeHalf := by rw [charge_cpsr, charge_bubble, charge_slotDecode]; exact h.pipe.slotDecodeHalf
  arbitrated := by rw [charge_armed, charge_dma]; exact h.devices.arbitrated
  dma := by rw [charge_dma]; exact h.devices.dma
  timers := timerAdvance_ok (s := { s with clock := s.clock + c }) h.devices.timers c
  settled := by rw [charge_stepClocks]; exact h0

theorem State.InvInStep.settle (h : s.InvInStep) : s.settle.Inv :=
  State.InvInStep.charge (s := { s with stepClocks := 0 })
    (h.congr h.pipe.congr) rfl _

theorem State.InvInStep.setRegIn (h : s.InvInStep) (m : Mode) (r : RegNo) (v : Word) : (s.setRegIn m r v).InvInStep :=
  h.congr (h.pipe.setRegIn m r v) (by simp) (by simp) (by simp) (by simp)

theorem State.InvInStep.internal (h : s.InvInStep) (k : Nat) : (s.internal k).InvInStep := h.congr h.pipe.congr

theorem State.InvInStep.access (h : s.InvInStep) (g : Agent) (a : Word) (w : Width) (k : AccessKind) :
    (s.access g a w k).InvInStep :=
  h.congr h.pipe.congr

theorem State.InvInStep.store (h : s.InvInStep) (k : StoreKind) (a v : Word) : (s.store k a v).InvInStep where
  memory := store_wf k a v h.memory
  pipe := h.pipe.congr (by rw [store_cpsr]) (store_pc ..) (store_bubble ..) (store_slotExec ..) (store_slotDecode ..)
  devices := h.devices.store k a v

/-- A branch settles the pipeline whatever the status word has become. -/
theorem State.InvInStep.branch (h : s.InvInStep) (p : Cpsr) (a : Word) :
    (({ s with cpsr := p } : State).branch a).InvInStep :=
  h.congr (branch_pipeOk _ a)

theorem Work.invInStep {i : Instr} (h : Work i s t) (hs : s.InvInStep) : t.InvInStep := by
  induction h with
  | start => exact hs
  | setReg _ r v ih => exact ih.setRegIn _ r v
  | setUserReg _ _ r v ih => exact ih.setRegIn _ r v
  | branch _ a ih => exact ih.branch _ a
  | flags _ hp ih => exact ih.congr (ih.pipe.congr hp.t)
  | access _ g a w k ih => exact ih.access g a w k
  | store _ k a v ih => exact ih.store k a v

theorem State.InvInStep.enterException (h : s.InvInStep) (e : Exc) (lr : Word) : (s.enterException e lr).InvInStep :=
  h.congr (branch_pipeOk _ _) (by simp) (by simp) (by simp) (by simp)

/-- An MSR never writes the T bit (R281). -/
theorem Cpsr.msr_t (p : Cpsr) (f : BitVec 4) (op : Word) : (p.msr f op).t = p.t := by
  unfold Cpsr.msr
  dsimp only
  split_ifs <;> rfl

theorem State.InvInStep.msrWrite (h : s.InvInStep) (R : Bool) (f : BitVec 4) (op : Word) :
    (s.msrWrite R f op).InvInStep := by
  unfold State.msrWrite
  split
  · split
    · exact h.congr h.pipe.congr
    · exact h
  · exact h.congr (h.pipe.congr (Cpsr.msr_t _ _ _))

/-- Every instruction keeps the invariant inside a step. -/
theorem Effect.invInStep {i : Instr} (h : Effect i s t) (hs : s.InvInStep) : t.InvInStep := by
  induction h with
  | work h => exact h.invInStep hs
  | restore h a => rw [restoreCpsr_only]; exact (h.invInStep hs).branch _ a
  | msr R f op => exact hs.msrWrite R f op
  | exchange v => exact hs.branch _ v
  | swi _ => exact hs.enterException _ _
  | undefined _ => exact (hs.internal 1).enterException _ _
  | internal _ k ih => exact ih.internal k

/-- Only a branch changes the instruction set, and after it the pipeline is empty (R55). -/
theorem Effect.t_eq_of_no_bubble {i : Instr} (h : Effect i s t) (hb : t.bubble = 0) : t.cpsr.t = s.cpsr.t := by
  induction h with
  | work h => exact h.flagsOnly.t
  | msr R f op =>
    unfold State.msrWrite
    split
    · split <;> rfl
    · exact Cpsr.msr_t _ _ _
  | internal _ k ih => exact ih hb
  | restore _ _ | exchange _ | swi _ | undefined _ => exact absurd (show (2 : Fin 3) = 0 from hb) (by decide)

theorem State.InvInStep.requestLine (h : s.InvInStep) (mask : BitVec 14) : (s.requestLine mask).InvInStep :=
  h.congr h.pipe.congr

theorem State.InvInStep.requestTrigger (h : s.InvInStep) (n : Fin 4) (t : BitVec 2) :
    (s.requestTrigger n t).InvInStep :=
  ⟨h.memory, h.pipe.congr, h.devices.requestTrigger n t⟩

theorem State.InvInStep.applyEnv (h : s.InvInStep) (e : EnvEvent) : (s.applyEnv e).InvInStep := by
  cases e with
  | request q => exact h.requestLine _
  | dmaTrigger n t => exact h.requestTrigger n _
  | fifoRequest n => exact h.requestTrigger _ _
  | keypadWake => exact h.congr h.pipe.congr

/-- A unit's accesses are aligned, so its write stays inside the address space (R108, R109, R745). -/
theorem State.InvInStep.dmaWrite (h : s.InvInStep) (n : Fin 4) {a : Word} {w : Width} (v : Word)
    (ha : a.toNat + w.bytes ≤ 2 ^ 32) : (s.dmaWrite n a w v).InvInStep where
  memory := writeBytes_wf v h.memory ha
  pipe := h.pipe.congr (by simp [State.dmaWrite]) (by simp [State.dmaWrite]) (by simp [State.dmaWrite])
    (by simp [State.dmaWrite]) (by simp [State.dmaWrite])
  devices := (h.devices.access _ _ _ _).writeBytes _ _ _

theorem State.InvInStep.unitMove (h : s.InvInStep) (n : Fin 4) : (s.unitMove n).InvInStep := by
  unfold State.unitMove
  dsimp only
  split
  · have hw := (h.access (.dma n) (alignWord (s.dma.get n).srcShadow) .word .read).dmaWrite n
      (w := .word) (s.read32 (alignWord (s.dma.get n).srcShadow)) (alignWord_fits (s.dma.get n).dstShadow)
    exact hw.congr hw.pipe.congr
  · have hw := (h.access (.dma n) (alignHalf (s.dma.get n).srcShadow) .half .read).dmaWrite n
      (w := .half) ((s.read16 (alignHalf (s.dma.get n).srcShadow)).setWidth 32) (alignHalf_fits (s.dma.get n).dstShadow)
    exact hw.congr hw.pipe.congr

/-- What a unit does after its move, it does to the devices (R745). -/
theorem performUnit_after_move (s : State) (n : Fin 4) :
    s.performUnit n = { s.unitMove n with
      dma := (s.performUnit n).dma, armed := (s.performUnit n).armed, busLast := (s.performUnit n).busLast,
      irq := (s.performUnit n).irq } := by
  unfold State.performUnit
  dsimp only
  split
  · rw [finalizeDma_only]; rfl
  · rfl

theorem State.InvInStep.performUnit (h : s.InvInStep) (n : Fin 4) : (s.performUnit n).InvInStep where
  memory := by rw [performUnit_after_move]; exact (h.unitMove n).memory
  pipe := by rw [performUnit_after_move]; exact (h.unitMove n).pipe.congr
  devices := h.devices.performUnit n

theorem State.InvInStep.bubbleStep (h : s.InvInStep) : s.bubbleStep.InvInStep := h.congr h.pipe.bubbleStep

theorem State.InvInStep.endInstr (h : t.InvInStep) {f : Word} (ht : t.bubble = 0 → t.cpsr.t = s.cpsr.t)
    (hf : s.cpsr.t = true → f.toNat < 2 ^ 16) : (t.endInstr s.w f).InvInStep := by
  have hp := h.pipe.endInstr ht hf
  unfold State.endInstr at *
  split
  next hb => rw [if_pos hb] at hp; exact h.congr hp
  · exact h

end InStep

/-! ## The dispatch of a step -/

section Dispatch

variable {s t : State}

/-- What costs no clock and leaves the timers alone needs no settling. -/
theorem State.InvInStep.inv (ht : t.InvInStep) (hs : s.Inv) (htim : t.timers = s.timers)
    (hclk : t.stepClocks = s.stepClocks) : t.Inv where
  memory := ht.memory
  pcAligned := ht.pipe.pcAligned
  slotExecHalf := ht.pipe.slotExecHalf
  slotDecodeHalf := ht.pipe.slotDecodeHalf
  arbitrated := ht.devices.arbitrated
  dma := ht.devices.dma
  timers := by rw [htim]; exact hs.timers
  settled := by rw [hclk]; exact hs.settled

theorem State.Inv.applyEnv (h : s.Inv) (e : EnvEvent) : (s.applyEnv e).Inv :=
  (h.inStep.applyEnv e).inv h (by cases e <;> rfl) (by cases e <;> rfl)

/-- The external events of a step, one after the other (R657). -/
theorem State.Inv.deliverEnv (h : s.Inv) : s.deliverEnv.Inv := by
  have hfold (due : List (Nat × EnvEvent)) : ∀ u : State, u.Inv → (due.foldl (fun s x => s.applyEnv x.2) u).Inv := by
    induction due with
    | nil => exact fun u hu => hu
    | cons x rest ih => exact fun u hu => ih _ (hu.applyEnv x.2)
  exact hfold _ _ ((h.inStep.congr h.inStep.pipe.congr).inv h rfl rfl)

/-- The instruction step (R54): the fetch, the instruction, the pipeline, the clocks. -/
theorem State.Inv.normalStep (h : s.Inv) (ht : normalStep s = .next t) : t.Inv := by
  obtain ⟨u, hu, heff⟩ := exec_does (slotInstr s.cpsr.t s.slotExec) s.beginInstr
  obtain rfl := Host.Outcome.next.inj ((normalStep_of_next hu).symm.trans ht)
  have hbegin : s.beginInstr.InvInStep := h.inStep.congr h.inStep.pipe.congr
  refine ((heff.invInStep hbegin).endInstr (s := s) heff.t_eq_of_no_bubble fun k => ?_).settle
  rw [fetchValue_eq_fetched]
  exact fetched_half k

theorem State.Inv.irqOrInstr (h : s.Inv) (ht : irqOrInstr s = .next t) : t.Inv := by
  unfold Machine.irqOrInstr at ht
  split at ht
  · obtain rfl := Host.Outcome.next.inj ht
    exact (h.inStep.enterException _ _).inv h (enterException_timers ..) (enterException_stepClocks ..)
  · exact h.normalStep ht

theorem State.Inv.haltOrRun (h : s.Inv) (ht : haltOrRun s = .next t) : t.Inv := by
  unfold Machine.haltOrRun at ht
  split at ht
  · obtain rfl := Host.Outcome.next.inj ht
    exact h.inStep.charge h.settled 1
  · have hrun : ({ s with halted := false } : State).Inv := (h.inStep.congr h.inStep.pipe.congr).inv h rfl rfl
    exact hrun.irqOrInstr ht

/-- The cases of the dispatch in their fixed order (R650). -/
theorem State.Inv.dispatchRest (h : s.Inv) (ht : dispatchRest s = .next t) : t.Inv := by
  unfold Machine.dispatchRest at ht
  split at ht
  · obtain rfl := Host.Outcome.next.inj ht
    exact (h.inStep.congr h.inStep.pipe.congr).inv h rfl rfl
  · split at ht
    next n _ =>
      obtain rfl := Host.Outcome.next.inj ht
      exact (h.inStep.performUnit n).settle
    · split at ht
      · obtain rfl := Host.Outcome.next.inj ht
        exact h.inStep.bubbleStep.settle
      · exact h.haltOrRun ht

end Dispatch

/-- Settles O46: the external events keep the invariant, and so does each case of the dispatch. -/
theorem invariantKept : Obligations.InvariantKept := fun _ _ h ht => h.deliverEnv.dispatchRest ht

end Sys2Proof.Machine
end

section
/-! Proofs of the statements about 20_memory.md: no step stops the machine (R100, R600, R650), and the bytes of a word
in memory (R106, R107). -/

namespace Sys2Proof.Machine

/-! ## Every step answers a next state -/

theorem exec_answers (i : Instr) (s : State) : ∃ t, exec i s = .next t :=
  let ⟨t, ht, _⟩ := exec_does i s
  ⟨t, ht⟩

theorem normalStep_answers (s : State) : ∃ t, normalStep s = .next t :=
  let ⟨_, hu⟩ := exec_answers (slotInstr s.cpsr.t s.slotExec) s.beginInstr
  ⟨_, normalStep_of_next hu⟩

theorem irqOrInstr_answers (s : State) : ∃ t, irqOrInstr s = .next t := by
  unfold irqOrInstr
  split
  · exact ⟨_, rfl⟩
  · exact normalStep_answers s

theorem haltOrRun_answers (s : State) : ∃ t, haltOrRun s = .next t := by
  unfold haltOrRun
  split
  · exact ⟨_, rfl⟩
  · exact irqOrInstr_answers _

theorem dispatchRest_answers (s : State) : ∃ t, dispatchRest s = .next t := by
  unfold dispatchRest
  split
  · exact ⟨_, rfl⟩
  · split
    · exact ⟨_, rfl⟩
    · split
      · exact ⟨_, rfl⟩
      · exact haltOrRun_answers s

/-- Settles O40: every instruction answers by `exec_does`, and each case of the dispatch either answers at once or runs
one. -/
theorem stepAnswersNext : Obligations.StepAnswersNext :=
  ⟨exec_answers, fun s => dispatchRest_answers s.deliverEnv⟩

/-! ## The bytes of a value -/

theorem byteOf_eq_extractLsb' (v : Word) (j : Nat) : byteOf v j = v.extractLsb' (8 * j) 8 :=
  BitVec.eq_of_toNat_eq (by simp [byteOf])

theorem byteOf_append_byteOf (v : Word) (j : Nat) : byteOf v (j + 1) ++ byteOf v j = v.extractLsb' (8 * j) 16 := by
  rw [byteOf_eq_extractLsb', byteOf_eq_extractLsb']
  exact BitVec.extractLsb'_append_extractLsb'_eq_extractLsb' (by omega)

theorem byteOf_append_all (v : Word) : byteOf v 3 ++ byteOf v 2 ++ byteOf v 1 ++ byteOf v 0 = v := by
  have h24 : v.extractLsb' (8 * 2) 16 ++ byteOf v 1 = v.extractLsb' (8 * 1) 24 := by
    rw [byteOf_eq_extractLsb']
    exact BitVec.extractLsb'_append_extractLsb'_eq_extractLsb' rfl
  have h32 : v.extractLsb' (8 * 1) 24 ++ byteOf v 0 = v.extractLsb' 0 32 := by
    rw [byteOf_eq_extractLsb']
    exact BitVec.extractLsb'_append_extractLsb'_eq_extractLsb' rfl
  rw [byteOf_append_byteOf v 2, h24, h32, BitVec.extractLsb'_eq_self]

/-! ## Reads byte by byte -/

theorem toNat_add_ofNat {a : Word} {k : Nat} (h : a.toNat + k < 2 ^ 32) :
    (a + BitVec.ofNat 32 k).toNat = a.toNat + k := by
  rw [BitVec.toNat_add, BitVec.toNat_ofNat, Nat.add_mod_mod, Nat.mod_eq_of_lt h]

theorem read8_add_ofNat (s : State) {a : Word} {k : Nat} (h : a.toNat + k < 2 ^ 32) :
    s.read8 (a + BitVec.ofNat 32 k) = s.byteAt (a.toNat + k) := congrArg s.byteAt (toNat_add_ofNat h)

/-- A word access at an aligned address stays below the top of the address space, so its byte addresses do not wrap. -/
theorem toNat_add_lt_of_word_aligned {a : Word} {k : Nat} (ha : a.toNat % 4 = 0) (hk : k < 4) :
    a.toNat + k < 2 ^ 32 := by
  have hlt := a.isLt
  omega

theorem read16_eq_read8_append (s : State) {a : Word} (ha : a.toNat % 2 = 0) :
    s.read16 a = s.read8 (a + 1) ++ s.read8 a := by
  have hlt := a.isLt
  have h1 : s.read8 (a + 1) = s.byteAt (a.toNat + 1) := read8_add_ofNat s (k := 1) (by omega)
  rw [h1]; rfl

theorem read32_eq_read8_append (s : State) {a : Word} (ha : a.toNat % 4 = 0) :
    s.read32 a = s.read8 (a + 3) ++ s.read8 (a + 2) ++ s.read8 (a + 1) ++ s.read8 a := by
  have hbyte {k : Nat} (hk : k < 4) : s.read8 (a + BitVec.ofNat 32 k) = s.byteAt (a.toNat + k) :=
    read8_add_ofNat s (toNat_add_lt_of_word_aligned ha hk)
  have h1 : s.read8 (a + 1) = s.byteAt (a.toNat + 1) := hbyte (by decide)
  have h2 : s.read8 (a + 2) = s.byteAt (a.toNat + 2) := hbyte (by decide)
  have h3 : s.read8 (a + 3) = s.byteAt (a.toNat + 3) := hbyte (by decide)
  rw [h1, h2, h3]; rfl

/-! ## Reads after a word write -/

section WordWrite

variable {s : State} {a : Word} (v : Word) (hwf : Memory.wf s.mem = true) (ha : a.toNat % 4 = 0)
  (hio : ∀ j < 4, isIo (a.toNat + j) = false)
include hwf ha hio

theorem memWrite_word_byteAt {j : Nat} (hj : j < 4) : (s.memWrite a .word v).byteAt (a.toNat + j) = byteOf v j := by
  have hfit : a.toNat + 4 ≤ 2 ^ 32 := toNat_add_lt_of_word_aligned (k := 3) ha (by decide)
  rw [byteAt_mem (hio j hj)]
  unfold State.memWrite
  rw [writeBytes_mem, access_mem]
  exact memLanes_read_same v hwf hfit hj (hio j hj)

theorem memWrite_word_read8 {k : Nat} (hk : k < 4) :
    (s.memWrite a .word v).read8 (a + BitVec.ofNat 32 k) = v.extractLsb' (8 * k) 8 := by
  rw [read8_add_ofNat _ (toNat_add_lt_of_word_aligned ha hk), memWrite_word_byteAt v hwf ha hio hk,
    byteOf_eq_extractLsb']

theorem memWrite_word_read16 {j : Nat} (hj : j < 2) :
    (s.memWrite a .word v).read16 (a + BitVec.ofNat 32 (2 * j)) = v.extractLsb' (16 * j) 16 := by
  have hlow : 2 * j < 4 := by omega
  have hhigh : 2 * j + 1 < 4 := by omega
  unfold State.read16
  rw [toNat_add_ofNat (toNat_add_lt_of_word_aligned ha hlow), Nat.add_assoc,
    memWrite_word_byteAt v hwf ha hio hlow, memWrite_word_byteAt v hwf ha hio hhigh, byteOf_append_byteOf,
    ← Nat.mul_assoc]

theorem memWrite_word_read32 : (s.memWrite a .word v).read32 a = v := by
  have hbyte {j : Nat} (hj : j < 4) := memWrite_word_byteAt v hwf ha hio hj
  have h0 : (s.memWrite a .word v).byteAt a.toNat = byteOf v 0 := hbyte (by decide : 0 < 4)
  unfold State.read32
  rw [hbyte (by decide : 3 < 4), hbyte (by decide : 2 < 4), hbyte (by decide : 1 < 4), h0, byteOf_append_all]

end WordWrite

/-- Settles O50: each byte of the word by `memLanes_read_same`, and the wide reads as concatenations of bytes. -/
theorem memoryReadWrite : Obligations.MemoryReadWrite :=
  ⟨fun _ _ v hwf ha hio => ⟨fun _ => memWrite_word_read8 v hwf ha hio, fun _ => memWrite_word_read16 v hwf ha hio,
    memWrite_word_read32 v hwf ha hio⟩, fun s _ => ⟨read16_eq_read8_append s, read32_eq_read8_append s⟩⟩

end Sys2Proof.Machine
end

section
/-! Proofs of the statements about 30_encoding.md: conditions and written-out words -/

namespace Sys2Proof.Machine

theorem exec_arm {i : Instr} (s : State) (h : i.isa = .arm) :
    ∃ cases t, exec i s = runArm (instrCond i) s cases t := by
  cases i <;> simp only [Instr.isa, reduceCtorEq] at h <;> exact ⟨_, _, rfl⟩

/-- Settles O6: every ARM arm of `exec` is a `runArm`, which answers a failed condition with the state it was given. -/
theorem failedConditionIsNoOp : Obligations.FailedConditionIsNoOp := by
  intro i s hi hc
  obtain ⟨cases, t, h⟩ := exec_arm s hi
  rw [h, runArm_failed hc]

/-- Settles O5: each code of the condition field picks its own test of the flags. -/
theorem conditionTable : Obligations.ConditionTable := by
  intro p
  simp [condPassed, Cond.ofCode]

/-- Settles O3, by running the decoder on each word. -/
theorem decodedWords : Obligations.DecodedWords := by
  unfold Obligations.DecodedWords
  decide

end Sys2Proof.Machine
end

section
/-! Proofs of the statements about 30_encoding.md: the round trip of encoder and decoder -/

namespace Sys2Proof

/-! ## Codes, fields and assembled words -/

@[simp] theorem Cond.code_ofCode (b : BitVec 4) : (Cond.ofCode b).code = b := by revert b; decide

@[simp] theorem Cond.ofCode_code (c : Cond) : Cond.ofCode c.code = c := by cases c <;> decide

@[simp] theorem Shift.code_ofCode (b : BitVec 2) : (Shift.ofCode b).code = b := by revert b; decide

@[simp] theorem Shift.ofCode_code (t : Shift) : Shift.ofCode t.code = t := by cases t <;> decide

theorem Cond.eq_code_iff {b : BitVec 4} {c : Cond} : b = c.code ↔ Cond.ofCode b = c :=
  ⟨fun h => h ▸ c.ofCode_code, fun h => h ▸ (Cond.code_ofCode b).symm⟩

theorem Shift.eq_code_iff {b : BitVec 2} {t : Shift} : b = t.code ↔ Shift.ofCode b = t :=
  ⟨fun h => h ▸ t.ofCode_code, fun h => h ▸ (Shift.code_ofCode b).symm⟩

variable {N n m lo : Nat}

theorem getLsbD_put (v : BitVec n) (lo i : Nat) :
    (put N v lo).getLsbD i = (decide (i < N) && (decide (lo ≤ i) && v.getLsbD (i - lo))) := by
  unfold put
  rw [BitVec.getLsbD_shiftLeft, BitVec.getLsbD_setWidth]
  grind

/-- The word `x` with the bits below `lo` cleared. -/
def upper (x : BitVec N) (lo : Nat) : BitVec N := x >>> lo <<< lo

theorem getLsbD_upper (x : BitVec N) (lo i : Nat) : (upper x lo).getLsbD i = (decide (lo ≤ i) && x.getLsbD i) := by
  unfold upper
  rw [BitVec.getLsbD_shiftLeft]
  by_cases h : lo ≤ i
  · simpa [h] using BitVec.lt_of_getLsbD
  · simp [h]

theorem upper_zero (x : BitVec N) : upper x 0 = x := by simp [upper]

theorem upper_put (v : BitVec n) (h : m ≤ lo) : upper (put N v lo) m = put N v lo := by
  apply BitVec.eq_of_getLsbD_eq
  intro i hi
  rw [getLsbD_upper, getLsbD_put]
  grind

theorem upper_or (a b : BitVec N) (m : Nat) : upper (a ||| b) m = upper a m ||| upper b m := by
  apply BitVec.eq_of_getLsbD_eq
  intro i hi
  simp only [getLsbD_upper, BitVec.getLsbD_or, Bool.and_or_distrib_left]

theorem extractLsb'_eq_iff {x : BitVec N} {v : BitVec n} :
    x.extractLsb' lo n = v ↔ ∀ i < n, x.getLsbD (lo + i) = v.getLsbD i := by
  rw [BitVec.eq_of_getLsbD_eq_iff]
  refine forall₂_congr fun i hi => ?_
  rw [BitVec.getLsbD_extractLsb', decide_eq_true hi, Bool.true_and]

theorem put_eq_upper_iff {x : BitVec N} {v : BitVec n} (hN : lo + n = N) :
    put N v lo = upper x lo ↔ x.extractLsb' lo n = v := by
  rw [BitVec.eq_of_getLsbD_eq_iff, extractLsb'_eq_iff]
  simp only [getLsbD_put, getLsbD_upper]
  constructor
  · intro h i hi
    have := h (lo + i) (by omega)
    simpa [show lo + i < N by omega, eq_comm] using this
  · intro h i hi
    by_cases hlo : lo ≤ i
    · have := h (i - lo) (by omega)
      rw [← this]
      simp [hlo, hi]
    · simp [hlo]

theorem or_put_eq_upper_iff {a x : BitVec N} {v : BitVec n} (ha : upper a m = a) (hm : lo + n = m) (hN : m ≤ N) :
    a ||| put N v lo = upper x lo ↔ a = upper x m ∧ x.extractLsb' lo n = v := by
  subst hm
  replace ha (i : Nat) (hi : i < lo + n) : a.getLsbD i = false := by
    rw [← ha, getLsbD_upper, decide_eq_false (by omega), Bool.false_and]
  rw [BitVec.eq_of_getLsbD_eq_iff, BitVec.eq_of_getLsbD_eq_iff, extractLsb'_eq_iff]
  simp only [BitVec.getLsbD_or, getLsbD_put, getLsbD_upper]
  constructor
  · intro h
    refine ⟨fun i hi => ?_, fun i hi => ?_⟩
    · have hv : lo + n ≤ i → v.getLsbD (i - lo) = false := fun hle => BitVec.getLsbD_of_ge _ _ (by omega)
      have := h i hi
      have := ha i
      grind
    · have := h (lo + i) (by omega)
      have := ha (lo + i) (by omega)
      grind
  · intro ⟨h, h'⟩ i hi
    have hv : lo + n ≤ i → v.getLsbD (i - lo) = false := fun hle => BitVec.getLsbD_of_ge _ _ (by omega)
    have := h i hi
    have := h' (i - lo)
    grind

theorem ofBool_getLsbD (x : BitVec N) (i : Nat) : BitVec.ofBool (x.getLsbD i) = x.extractLsb' i 1 := by
  apply BitVec.eq_of_getLsbD_eq
  intro j hj
  obtain rfl : j = 0 := by omega
  simp

/-- A tested bit as a field of one bit. -/
theorem extractLsb'_one {x : BitVec N} {i : Nat} {b : Bool} (h : x.getLsbD i = b) :
    x.extractLsb' i 1 = BitVec.ofBool b := by rw [← ofBool_getLsbD, h]

/-- Two fields side by side are one field. -/
theorem extractLsb'_join {x : BitVec N} {k : Nat} {a : BitVec k} {b : BitVec n} (ha : x.extractLsb' m k = a)
    (hb : x.extractLsb' lo n = b) (hm : m = lo + n) : x.extractLsb' lo (k + n) = a ++ b := by
  rw [← ha, ← hb, BitVec.extractLsb'_append_extractLsb'_eq_extractLsb' hm]

/-- A field inside a field. -/
theorem extractLsb'_extractLsb' (x : BitVec N) {i k : Nat} (h : i + k ≤ n) :
    (x.extractLsb' lo n).extractLsb' i k = x.extractLsb' (lo + i) k := by
  apply BitVec.eq_of_getLsbD_eq
  intro j hj
  have hij : i + j < n := by omega
  simp only [BitVec.getLsbD_extractLsb', hj, hij, decide_true, Bool.true_and, Nat.add_assoc]

/-- What a known field says of a field inside it. -/
theorem extractLsb'_within {x : BitVec N} {v : BitVec n} (h : x.extractLsb' lo n = v) {i k : Nat} (hi : lo ≤ i)
    (hk : i + k ≤ lo + n) : x.extractLsb' i k = v.extractLsb' (i - lo) k := by
  rw [← h, extractLsb'_extractLsb' x (by omega), Nat.add_sub_cancel' hi]

theorem extractLsb'_one_iff {x : BitVec N} {i : Nat} {b : Bool} :
    x.extractLsb' i 1 = BitVec.ofBool b ↔ x.getLsbD i = b := by
  rw [← ofBool_getLsbD]; cases x.getLsbD i <;> cases b <;> decide

/-- What it takes for an encoding to be `x`: read from the last field to the first, each field of `x` is the encoded
one. A bit and a condition or shift code are left as the decoder reads them. -/
theorem assembled_iff (x : BitVec N) :
    (∀ n a (v : BitVec n), upper a n = a → n ≤ N →
      (a ||| put N v 0 = x ↔ a = upper x n ∧ x.extractLsb' 0 n = v)) ∧
    (∀ n lo a (v : BitVec n), upper a (lo + n) = a → lo + n ≤ N →
      (a ||| put N v lo = upper x lo ↔ a = upper x (lo + n) ∧ x.extractLsb' lo n = v)) ∧
    (∀ n lo (v : BitVec n), lo + n = N → (put N v lo = upper x lo ↔ x.extractLsb' lo n = v)) ∧
    (∀ n lo m (v : BitVec n), m ≤ lo → upper (put N v lo) m = put N v lo) ∧
    (∀ m (a b : BitVec N), upper (a ||| b) m = upper a m ||| upper b m) ∧
    (∀ i b, x.extractLsb' i 1 = BitVec.ofBool b ↔ x.getLsbD i = b) ∧
    (∀ i, x.extractLsb' i 1 = 0#1 ↔ x.getLsbD i = false) ∧
    (∀ i, x.extractLsb' i 1 = 1#1 ↔ x.getLsbD i = true) ∧
    (∀ lo c, x.extractLsb' lo 4 = Cond.code c ↔ Cond.ofCode (x.extractLsb' lo 4) = c) ∧
    ∀ lo t, x.extractLsb' lo 2 = Shift.code t ↔ Shift.ofCode (x.extractLsb' lo 2) = t := by
  refine ⟨fun n a v ha hN => ?_, fun n lo a v ha hN => or_put_eq_upper_iff ha rfl hN, fun _ _ _ => put_eq_upper_iff,
    fun _ _ _ => upper_put, fun m a b => upper_or a b m, fun _ _ => extractLsb'_one_iff,
    fun _ => extractLsb'_one_iff (b := false), fun _ => extractLsb'_one_iff (b := true),
    fun _ _ => Cond.eq_code_iff, fun _ _ => Shift.eq_code_iff⟩
  have h := or_put_eq_upper_iff (x := x) (v := v) ha (Nat.zero_add n) hN
  rwa [upper_zero] at h

/-! ## Case analysis on a short field -/

theorem twoBits {P : BitVec 2 → Prop} (b00 : P 0#2) (b01 : P 1#2) (b10 : P 2#2) (b11 : P 3#2) (v : BitVec 2) :
    P v := by
  have h : v = 0#2 ∨ v = 1#2 ∨ v = 2#2 ∨ v = 3#2 := by revert v; decide
  rcases h with rfl | rfl | rfl | rfl <;> assumption

theorem threeBits {P : BitVec 3 → Prop} (b000 : P 0#3) (b001 : P 1#3) (b010 : P 2#3) (b011 : P 3#3)
    (b100 : P 4#3) (b101 : P 5#3) (b110 : P 6#3) (b111 : P 7#3) (v : BitVec 3) : P v := by
  have h : v = 0#3 ∨ v = 1#3 ∨ v = 2#3 ∨ v = 3#3 ∨ v = 4#3 ∨ v = 5#3 ∨ v = 6#3 ∨ v = 7#3 := by
    revert v
    decide
  rcases h with rfl | rfl | rfl | rfl | rfl | rfl | rfl | rfl <;> assumption

theorem fourBits {P : BitVec 4 → Prop} (b0000 : P 0#4) (b0001 : P 1#4) (b0010 : P 2#4) (b0011 : P 3#4)
    (b0100 : P 4#4) (b0101 : P 5#4) (b0110 : P 6#4) (b0111 : P 7#4) (b1000 : P 8#4) (b1001 : P 9#4) (b1010 : P 10#4)
    (b1011 : P 11#4) (b1100 : P 12#4) (b1101 : P 13#4) (b1110 : P 14#4) (b1111 : P 15#4) (v : BitVec 4) : P v := by
  have h : v = 0#4 ∨ v = 1#4 ∨ v = 2#4 ∨ v = 3#4 ∨ v = 4#4 ∨ v = 5#4 ∨ v = 6#4 ∨ v = 7#4 ∨ v = 8#4 ∨ v = 9#4 ∨
      v = 10#4 ∨ v = 11#4 ∨ v = 12#4 ∨ v = 13#4 ∨ v = 14#4 ∨ v = 15#4 := by
    revert v
    decide
  rcases h with rfl | rfl | rfl | rfl | rfl | rfl | rfl | rfl | rfl | rfl | rfl | rfl | rfl | rfl | rfl | rfl <;>
    assumption

/-! ## ARM: what a word decodes to encodes to it -/

/-- The instruction is well formed and `c` is its encoding. -/
def EncodesTo (i : Instr) (c : Code) : Prop := i.wf = true ∧ encode i = c

section Arm

variable {x : Word}

/-- The condition field of `x`. -/
abbrev condOf (x : Word) : Cond := Cond.ofCode (x.extractLsb' 28 4)

theorem decodeDpImm_encodesTo (h : x.extractLsb' 25 3 = 1#3)
    (hS : (x.extractLsb' 21 4).extractLsb' 2 2 = 2#2 → x.getLsbD 20 = true) :
    EncodesTo (decodeDpImm (condOf x) x) (.arm x) := by
  unfold decodeDpImm
  cases hop : x.extractLsb' 21 4 using fourBits
  all_goals
    rw [hop] at hS
    refine ⟨rfl, congrArg Code.arm ?_⟩
    simp (decide := true) only [assembled_iff x, h, hop, hS, and_self]

theorem decodeDpShiftImm_encodesTo (h : x.extractLsb' 25 3 = 0#3) (h4 : x.getLsbD 4 = false)
    (hS : (x.extractLsb' 21 4).extractLsb' 2 2 = 2#2 → x.getLsbD 20 = true) :
    EncodesTo (decodeDpShiftImm (condOf x) x) (.arm x) := by
  unfold decodeDpShiftImm
  cases hop : x.extractLsb' 21 4 using fourBits
  all_goals
    rw [hop] at hS
    refine ⟨rfl, congrArg Code.arm ?_⟩
    simp (decide := true) only [assembled_iff x, h, h4, hop, hS, and_self]

theorem decodeDpShiftReg_encodesTo (h : x.extractLsb' 25 3 = 0#3) (h7 : x.getLsbD 7 = false)
    (h4 : x.getLsbD 4 = true) (hS : (x.extractLsb' 21 4).extractLsb' 2 2 = 2#2 → x.getLsbD 20 = true) :
    EncodesTo (decodeDpShiftReg (condOf x) x) (.arm x) := by
  unfold decodeDpShiftReg
  cases hop : x.extractLsb' 21 4 using fourBits
  all_goals
    rw [hop] at hS
    refine ⟨rfl, congrArg Code.arm ?_⟩
    simp (decide := true) only [assembled_iff x, h, h4, h7, hop, hS, and_self]

theorem decodeLsImm_encodesTo (h : x.extractLsb' 25 3 = 2#3) :
    EncodesTo (decodeLsImm (condOf x) x) (.arm x) := by
  unfold decodeLsImm
  cases h24 : x.getLsbD 24 <;> cases h22 : x.getLsbD 22 <;> cases h21 : x.getLsbD 21 <;> cases h20 : x.getLsbD 20
  all_goals
    refine ⟨rfl, congrArg Code.arm ?_⟩
    simp (decide := true) only [assembled_iff x, h, h24, h22, h21, h20, and_self]

theorem decodeLsReg_encodesTo (h : x.extractLsb' 25 3 = 3#3) (h4 : x.getLsbD 4 = false) :
    EncodesTo (decodeLsReg (condOf x) x) (.arm x) := by
  unfold decodeLsReg
  cases h24 : x.getLsbD 24 <;> cases h22 : x.getLsbD 22 <;> cases h21 : x.getLsbD 21 <;> cases h20 : x.getLsbD 20
  all_goals
    refine ⟨rfl, congrArg Code.arm ?_⟩
    simp (decide := true) only [assembled_iff x, h, h24, h22, h21, h20, h4, and_self]

theorem decodeMulSwap_encodesTo (h : x.extractLsb' 25 3 = 0#3) (h4 : x.extractLsb' 4 4 = 9#4) :
    EncodesTo (decodeMulSwap (condOf x) x) (.arm x) := by
  unfold decodeMulSwap
  split
  next h22 =>
    rw [beq_iff_eq] at h22
    have h22 : x.extractLsb' 22 6 = 0#6 := extractLsb'_join h h22 rfl
    cases h21 : x.getLsbD 21
    all_goals
      refine ⟨rfl, congrArg Code.arm ?_⟩
      simp (decide := true) only [assembled_iff x, h22, h21, h4, and_self]
  next n22 =>
  split
  next h23 =>
    rw [beq_iff_eq] at h23
    have h23 : x.extractLsb' 23 5 = 1#5 := extractLsb'_join h h23 rfl
    cases h21 : x.extractLsb' 21 2 using twoBits
    all_goals
      refine ⟨rfl, congrArg Code.arm ?_⟩
      simp (decide := true) only [assembled_iff x, h23, h21, h4, and_self]
  next n23 =>
  split
  next h20 =>
    rw [beq_iff_eq] at h20
    refine ⟨rfl, congrArg Code.arm ?_⟩
    simp (decide := true) only [assembled_iff x, h, h20, h4, and_self]
  next n20 =>
  split
  next h20 =>
    rw [beq_iff_eq] at h20
    refine ⟨rfl, congrArg Code.arm ?_⟩
    simp (decide := true) only [assembled_iff x, h, h20, h4, and_self]
  next m20 =>
    refine ⟨?_, congrArg Code.arm ?_⟩
    · change u1Op _ = true
      rw [u1Op, extractLsb'_extractLsb' x (by decide), extractLsb'_extractLsb' x (by decide)]
      simp only [n22, n23, n20, m20, Bool.or_false, Bool.not_false]
    · simp (decide := true) only [assembled_iff x, h, h4, and_self]

theorem isImm_halfOff (x : Word) : (halfOff x).isImm = x.getLsbD 22 := by
  unfold halfOff; cases x.getLsbD 22 <;> rfl

theorem hi_halfOff (x : Word) : (halfOff x).hi = x.extractLsb' 8 4 := by unfold halfOff; split <;> rfl

theorem lo_halfOff (x : Word) : (halfOff x).lo = x.extractLsb' 0 4 := by unfold halfOff; split <;> rfl

theorem decodeHalf_encodesTo (h : x.extractLsb' 25 3 = 0#3) (h7 : x.getLsbD 7 = true) (h4 : x.getLsbD 4 = true)
    (n5 : x.extractLsb' 5 2 ≠ 0#2) : EncodesTo (decodeHalf (condOf x) x) (.arm x) := by
  unfold decodeHalf
  cases h20 : x.getLsbD 20
  · cases h6 : x.getLsbD 6
    · have h5 : x.extractLsb' 5 2 = 1#2 := by
        have h6 : (x.extractLsb' 5 2).getLsbD 1 = false := by simpa using h6
        generalize x.extractLsb' 5 2 = v at n5 h6
        revert v; decide
      refine ⟨rfl, congrArg Code.arm ?_⟩
      simp (decide := true) only [assembled_iff x, h, h20, h7, h5, h4, isImm_halfOff, hi_halfOff, lo_halfOff, and_self]
    · have h6 : x.extractLsb' 6 2 = 3#2 := extractLsb'_join (extractLsb'_one h7) (extractLsb'_one h6) rfl
      refine ⟨rfl, congrArg Code.arm ?_⟩
      simp (decide := true) only [assembled_iff x, h, h20, h6, h4, and_self]
  · cases h5 : x.extractLsb' 5 2 using twoBits
    case b00 => exact absurd h5 n5
    all_goals
      refine ⟨rfl, congrArg Code.arm ?_⟩
      simp (decide := true) only [assembled_iff x, h, h20, h7, h5, h4, isImm_halfOff, hi_halfOff, lo_halfOff, and_self]

theorem decodeMisc_encodesTo (h : x.extractLsb' 23 5 = 2#5) (h20 : x.getLsbD 20 = false)
    (h74 : (x.getLsbD 7 && x.getLsbD 4) = false) : EncodesTo (decodeMisc (condOf x) x) (.arm x) := by
  unfold decodeMisc
  split
  next h4 =>
    rw [beq_iff_eq] at h4
    cases h21 : x.getLsbD 21
    all_goals
      have h20 := extractLsb'_join (extractLsb'_one h21) (extractLsb'_one h20) rfl
      refine ⟨rfl, congrArg Code.arm ?_⟩
      simp (decide := true) only [assembled_iff x, h, h20, h4, and_self]
  next n4 =>
  split
  next hbx =>
    rw [Bool.and_eq_true, beq_iff_eq, beq_iff_eq] at hbx
    obtain ⟨h21, h4⟩ := hbx
    have h20 : x.extractLsb' 20 8 = 0b00010010#8 :=
      extractLsb'_join (extractLsb'_join h h21 rfl) (extractLsb'_one h20) rfl
    refine ⟨rfl, congrArg Code.arm ?_⟩
    simp (decide := true) only [assembled_iff x, h20, h4, and_self]
  next nbx =>
    refine ⟨?_, congrArg Code.arm ?_⟩
    · have hlo : ((x.extractLsb' 4 4).getLsbD 3 && (x.extractLsb' 4 4).getLsbD 0) = false := by simpa using h74
      change u3Ok _ _ = true
      simp only [u3Ok, n4, hlo, nbx, Bool.or_false, Bool.not_false]
    · simp (decide := true) only [assembled_iff x, h, h20, and_self]

theorem decodeCoproc_encodesTo (h : x.extractLsb' 25 3 = 7#3) :
    EncodesTo (decodeCoproc (condOf x) x) (.arm x) := by
  unfold decodeCoproc
  cases h24 : x.getLsbD 24 <;> cases h4 : x.getLsbD 4 <;> cases h20 : x.getLsbD 20
  all_goals
    have h24 := extractLsb'_join h (extractLsb'_one h24) rfl
    refine ⟨rfl, congrArg Code.arm ?_⟩
    simp (decide := true) only [assembled_iff x, h24, h4, h20, and_self]

/-- Outside the miscellaneous space the opcodes 10xx (TST, TEQ, CMP, CMN) have S set (R146). -/
theorem testOpcode_sets (h : ¬(x.extractLsb' 23 2 == 0b10#2 && !x.getLsbD 20) = true)
    (hop : (x.extractLsb' 21 4).extractLsb' 2 2 = 2#2) : x.getLsbD 20 = true := by
  rw [extractLsb'_extractLsb' x (by decide)] at hop
  simpa [hop] using h

/-- Bits 27:23 and bit 20 of the miscellaneous space, with bits 27:25 = `k`. -/
theorem miscSpace {k : BitVec 3} (h : x.extractLsb' 25 3 = k)
    (hm : (x.extractLsb' 23 2 == 0b10#2 && !x.getLsbD 20) = true) :
    x.extractLsb' 23 5 = k ++ 0b10#2 ∧ x.getLsbD 20 = false := by
  rw [Bool.and_eq_true, beq_iff_eq, Bool.not_eq_true'] at hm
  exact ⟨extractLsb'_join h hm.1 rfl, hm.2⟩

theorem decodeArm0_encodesTo (h : x.extractLsb' 25 3 = 0#3) : EncodesTo (decodeArm0 (condOf x) x) (.arm x) := by
  unfold decodeArm0
  split
  next h74 =>
    rw [Bool.and_eq_true] at h74
    obtain ⟨h7, h4⟩ := h74
    split
    next h5 =>
      rw [beq_iff_eq] at h5
      exact decodeMulSwap_encodesTo h
        (extractLsb'_join (extractLsb'_join (extractLsb'_one h7) h5 rfl) (extractLsb'_one h4) rfl)
    next n5 => exact decodeHalf_encodesTo h h7 h4 (by rwa [beq_iff_eq] at n5)
  next n74 =>
    rw [Bool.not_eq_true] at n74
    split
    next hm => exact decodeMisc_encodesTo (miscSpace h hm).1 (miscSpace h hm).2 n74
    next nm =>
      split
      next h4 =>
        rw [h4, Bool.and_true] at n74
        exact decodeDpShiftReg_encodesTo h n74 h4 (testOpcode_sets nm)
      next n4 => exact decodeDpShiftImm_encodesTo h (Bool.not_eq_true _ ▸ n4) (testOpcode_sets nm)

theorem decodeArm1_encodesTo (h : x.extractLsb' 25 3 = 1#3) : EncodesTo (decodeArm1 (condOf x) x) (.arm x) := by
  unfold decodeArm1
  split
  next hm =>
    obtain ⟨h23, h20⟩ := miscSpace h hm
    cases h21 : x.getLsbD 21
    all_goals
      have h20 := extractLsb'_join (extractLsb'_one h21) (extractLsb'_one h20) rfl
      refine ⟨rfl, congrArg Code.arm ?_⟩
      simp (decide := true) only [assembled_iff x, h23, h20, and_self]
  next nm => exact decodeDpImm_encodesTo h (testOpcode_sets nm)

theorem decodeArm_encodesTo (x : Word) : EncodesTo (decodeArm x) (.arm x) := by
  unfold decodeArm
  cases h : x.extractLsb' 25 3 using threeBits
  case b000 => exact decodeArm0_encodesTo h
  case b001 => exact decodeArm1_encodesTo h
  case b010 => exact decodeLsImm_encodesTo h
  case b011 =>
    cases h4 : x.getLsbD 4
    case false => exact decodeLsReg_encodesTo h h4
    case true =>
      refine ⟨rfl, congrArg Code.arm ?_⟩
      simp (decide := true) only [assembled_iff x, h, h4, and_self]
  case b100 | b110 =>
    cases h20 : x.getLsbD 20
    all_goals
      refine ⟨rfl, congrArg Code.arm ?_⟩
      simp (decide := true) only [assembled_iff x, h, h20, and_self]
  case b101 =>
    cases h24 : x.getLsbD 24
    all_goals
      refine ⟨rfl, congrArg Code.arm ?_⟩
      simp (decide := true) only [assembled_iff x, h, h24, and_self]
  case b111 => exact decodeCoproc_encodesTo h

end Arm

end Sys2Proof

namespace Sys2Proof

/-! ## THUMB: what a halfword decodes to encodes to it -/

section Thumb

variable {x : Half}

theorem decodeThumb12_encodesTo (h : x.extractLsb' 13 3 = 0#3) : EncodesTo (decodeThumb12 x) (.thumb x) := by
  unfold decodeThumb12
  cases h11 : x.extractLsb' 11 2 using twoBits
  case b11 =>
    have h11' : x.extractLsb' 11 5 = 0b00011#5 := extractLsb'_join h h11 rfl
    cases h9 : x.extractLsb' 9 2 using twoBits
    all_goals
      refine ⟨rfl, congrArg Code.thumb ?_⟩
      simp (decide := true) only [assembled_iff x, h11', h9, and_self]
  all_goals
    refine ⟨rfl, congrArg Code.thumb ?_⟩
    simp (decide := true) only [assembled_iff x, h, h11, and_self]

theorem decodeThumb4_encodesTo (h : x.extractLsb' 10 6 = 0b010000#6) : EncodesTo (decodeThumb4 x) (.thumb x) := by
  unfold decodeThumb4
  cases hop : x.extractLsb' 6 4 using fourBits
  all_goals
    refine ⟨rfl, congrArg Code.thumb ?_⟩
    simp (decide := true) only [assembled_iff x, h, hop, and_self]

theorem decodeThumb5_encodesTo (h : x.extractLsb' 10 6 = 0b010001#6) : EncodesTo (decodeThumb5 x) (.thumb x) := by
  unfold decodeThumb5
  cases hop : x.extractLsb' 8 2 using twoBits
  all_goals
    refine ⟨rfl, congrArg Code.thumb ?_⟩
    simp (decide := true) only [assembled_iff x, h, hop, and_self]

theorem decodeThumb78_encodesTo (h : x.extractLsb' 12 4 = 0b0101#4) : EncodesTo (decodeThumb78 x) (.thumb x) := by
  unfold decodeThumb78
  cases hop : x.extractLsb' 9 3 using threeBits
  all_goals
    refine ⟨rfl, congrArg Code.thumb ?_⟩
    simp (decide := true) only [assembled_iff x, h, hop, and_self]

theorem decodeThumbCond_encodesTo (h : x.extractLsb' 12 4 = 0b1101#4) : EncodesTo (decodeThumbCond x) (.thumb x) := by
  unfold decodeThumbCond
  cases hop : x.extractLsb' 8 4 using fourBits
  all_goals
    refine ⟨rfl, congrArg Code.thumb ?_⟩
    simp (decide := true) only [assembled_iff x, h, hop, extractLsb'_join h hop, and_self]

theorem decodeThumbMisc_encodesTo (h : x.extractLsb' 12 4 = 0b1011#4) : EncodesTo (decodeThumbMisc x) (.thumb x) := by
  unfold decodeThumbMisc
  split
  next h9 =>
    rw [beq_iff_eq] at h9
    cases h11 : x.getLsbD 11
    all_goals
      refine ⟨rfl, congrArg Code.thumb ?_⟩
      simp (decide := true) only [assembled_iff x, h, h11, h9, and_self]
  next n9 =>
    rw [beq_iff_eq] at n9
    cases h8 : x.extractLsb' 8 4 using fourBits
    case b0000 =>
      cases h7 : x.getLsbD 7
      all_goals
        refine ⟨rfl, congrArg Code.thumb ?_⟩
        simp (decide := true) only [assembled_iff x, h7, extractLsb'_join h h8, and_self]
    all_goals
      rw [extractLsb'_within h8 (by decide) (by decide)] at n9
      refine ⟨rfl, congrArg Code.thumb ?_⟩
      simp (decide := true) only [assembled_iff x, extractLsb'_within (extractLsb'_join h h8 rfl), and_self] at n9 ⊢

theorem decodeThumb_encodesTo (x : Half) : EncodesTo (decodeThumb x) (.thumb x) := by
  unfold decodeThumb
  cases h : x.extractLsb' 12 4 using fourBits
  case b0000 | b0001 => exact decodeThumb12_encodesTo (extractLsb'_within h (by decide) (by decide))
  case b0100 =>
    cases h11 : x.getLsbD 11
    all_goals have h11 := extractLsb'_join h (extractLsb'_one h11) rfl
    case false =>
      cases h10 : x.getLsbD 10
      all_goals have h10 := extractLsb'_join h11 (extractLsb'_one h10) rfl
      case false => exact decodeThumb4_encodesTo h10
      case true => exact decodeThumb5_encodesTo h10
    case true =>
      refine ⟨rfl, congrArg Code.thumb ?_⟩
      simp (decide := true) only [assembled_iff x, h11, and_self]
  case b0101 => exact decodeThumb78_encodesTo h
  case b1011 => exact decodeThumbMisc_encodesTo h
  case b1101 => exact decodeThumbCond_encodesTo h
  all_goals
    cases h11 : x.getLsbD 11
    all_goals
      have h11 := extractLsb'_join h (extractLsb'_one h11) rfl
      refine ⟨rfl, congrArg Code.thumb ?_⟩
      simp (decide := true) only [assembled_iff x, extractLsb'_within h11, and_self]

end Thumb

/-- The instruction set of a code word. -/
def Code.isa : Code → Isa
  | .arm _ => .arm
  | .thumb _ => .thumb

theorem encode_isa (i : Instr) : (encode i).isa = i.isa := by cases i <;> rfl

theorem EncodesTo.isa {i : Instr} {c : Code} (h : EncodesTo i c) : i.isa = c.isa := by rw [← encode_isa, h.2]

/-- Settles O2: space by space, as the decoder goes, what a word decodes to encodes to it. -/
theorem encodeOfDecode : Obligations.EncodeOfDecode := by
  refine ⟨fun x => ?_, fun x => ?_⟩
  · have h := decodeArm_encodesTo x
    exact ⟨h.1, h.isa, h.2⟩
  · have h := decodeThumb_encodesTo x
    exact ⟨h.1, h.isa, h.2⟩

end Sys2Proof
end

section
/-! Proofs of the statements about 30_encoding.md: decoding an encoding -/

namespace Sys2Proof

/-! ## What a known field says of another one -/

/-- The field `j`, `k` as a part of the field `lo`, `n`. -/
theorem subfield {N : Nat} (x : BitVec N) (j k lo n : Nat) (h : lo ≤ j ∧ j + k ≤ lo + n := by decide) :
    x.extractLsb' j k = (x.extractLsb' lo n).extractLsb' (j - lo) k := by
  rw [extractLsb'_extractLsb' x (by omega), Nat.add_sub_cancel' h.1]

/-- The bit `j` as a bit of the field `lo`, `n`. -/
theorem subbit {N : Nat} (x : BitVec N) (j lo n : Nat) (h : lo ≤ j ∧ j < lo + n := by decide) :
    x.getLsbD j = (x.extractLsb' lo n).getLsbD (j - lo) := by
  rw [BitVec.getLsbD_extractLsb', decide_eq_true (by omega), Bool.true_and, Nat.add_sub_cancel' h.1]

/-- The field at `lo` as two fields, the upper one at `hi`. -/
theorem joined {N : Nat} (x : BitVec N) (hi k lo n : Nat) (h : hi = lo + n := by decide) :
    x.extractLsb' lo (k + n) = x.extractLsb' hi k ++ x.extractLsb' lo n := extractLsb'_join rfl rfl h

/-! ## The instructions whose well-formedness is not trivial -/

theorem u1Op_iff {op : BitVec 5} : u1Op op = true ↔ op.extractLsb' 2 3 ≠ 0#3 ∧ op.extractLsb' 3 2 ≠ 1#2 ∧
    op ≠ 0b10000#5 ∧ op ≠ 0b10100#5 := by simp [u1Op, and_assoc]

theorem u3Ok_iff {op : BitVec 2} {lo : BitVec 4} : u3Ok op lo = true ↔ lo ≠ 0#4 ∧
    ¬(lo.getLsbD 3 = true ∧ lo.getLsbD 0 = true) ∧ ¬(op = 1#2 ∧ lo = 1#4) := by
  unfold u3Ok
  grind

/-! ## What decodes to an encoded instruction

`assembled_iff` turns "the encoding is `x`" into the fields of `x`. With those, and with the fields the decoder tests as
parts of those the encoder places, each test of the decoder is decided. -/

theorem decodeArm_of_encodesTo {i : Instr} {x : Word} (h : EncodesTo i (.arm x)) : decodeArm x = i := by
  obtain ⟨hwf, hx⟩ := h
  cases i <;> injection hx <;> rename_i hx <;> simp (decide := true) only [assembled_iff x] at hx
  case andImm | eorImm | subImm | rsbImm | addImm | adcImm | sbcImm | rscImm | tstImm | teqImm | cmpImm | cmnImm |
      orrImm | movImm | bicImm | mvnImm =>
    simp [decodeArm, decodeArm1, decodeDpImm, hx, subfield x 23 2 21 4, -BitVec.getLsbD_eq_getElem]
  case andShiftImm | eorShiftImm | subShiftImm | rsbShiftImm | addShiftImm | adcShiftImm | sbcShiftImm | rscShiftImm |
      tstShiftImm | teqShiftImm | cmpShiftImm | cmnShiftImm | orrShiftImm | movShiftImm | bicShiftImm | mvnShiftImm =>
    simp [decodeArm, decodeArm0, decodeDpShiftImm, hx, subfield x 23 2 21 4, -BitVec.getLsbD_eq_getElem]
  case andShiftReg | eorShiftReg | subShiftReg | rsbShiftReg | addShiftReg | adcShiftReg | sbcShiftReg | rscShiftReg |
      tstShiftReg | teqShiftReg | cmpShiftReg | cmnShiftReg | orrShiftReg | movShiftReg | bicShiftReg | mvnShiftReg =>
    simp [decodeArm, decodeArm0, decodeDpShiftReg, hx, subfield x 23 2 21 4, -BitVec.getLsbD_eq_getElem]
  case msrImm | undefU4 =>
    simp [decodeArm, decodeArm1, hx, subfield x 25 3 23 5, subfield x 23 2 23 5, subbit x 20 20 2, subbit x 21 20 2,
      -BitVec.getLsbD_eq_getElem]
  case mrs | msrReg =>
    simp [decodeArm, decodeArm0, decodeMisc, hx, subfield x 25 3 23 5, subfield x 23 2 23 5, subbit x 20 20 2,
      subbit x 21 20 2, subbit x 7 4 4, -BitVec.getLsbD_eq_getElem]
  case bx =>
    simp [decodeArm, decodeArm0, decodeMisc, hx, subfield x 25 3 20 8, subfield x 23 2 20 8, subfield x 21 2 20 8,
      subbit x 20 20 8, subbit x 7 4 4, -BitVec.getLsbD_eq_getElem]
  case mul | mla =>
    simp [decodeArm, decodeArm0, decodeMulSwap, hx, subfield x 25 3 22 6, subfield x 22 3 22 6, subbit x 7 4 4,
      subbit x 4 4 4, subfield x 5 2 4 4, -BitVec.getLsbD_eq_getElem]
  case umull | umlal | smull | smlal =>
    simp [decodeArm, decodeArm0, decodeMulSwap, hx, subfield x 25 3 23 5, subfield x 22 3 21 7, joined x 23 5 21 2,
      subfield x 23 2 23 5, subbit x 7 4 4, subbit x 4 4 4, subfield x 5 2 4 4, -BitVec.getLsbD_eq_getElem]
  case swp | swpb =>
    simp [decodeArm, decodeArm0, decodeMulSwap, hx, subfield x 22 3 20 5, subfield x 23 2 20 5, subbit x 7 4 4,
      subbit x 4 4 4, subfield x 5 2 4 4, -BitVec.getLsbD_eq_getElem]
  case undefU1 =>
    replace hwf := u1Op_iff.1 hwf
    simp [decodeArm, decodeArm0, decodeMulSwap, hx, hwf, subfield x 22 3 20 5, subfield x 23 2 20 5, subbit x 7 4 4,
      subbit x 4 4 4, subfield x 5 2 4 4, -BitVec.getLsbD_eq_getElem]
  case strh c p u w rn rd off | ldrh c p u w rn rd off | ldrsb c p u w rn rd off | ldrsh c p u w rn rd off =>
    cases off <;>
      simp_all [decodeArm, decodeArm0, decodeHalf, halfOff, HalfOff.isImm, HalfOff.hi, HalfOff.lo, subbit x 6 5 2,
        -BitVec.getLsbD_eq_getElem]
  case undefU2 =>
    have h6 : x.getLsbD 6 = true := by simp [hx, subbit x 6 6 2, -BitVec.getLsbD_eq_getElem]
    have n5 : x.extractLsb' 5 2 ≠ 0#2 := fun h5 => by
      rw [subbit x 6 5 2, h5] at h6
      exact absurd h6 (by decide)
    simp [decodeArm, decodeArm0, decodeHalf, hx, n5, h6, subbit x 7 6 2, -BitVec.getLsbD_eq_getElem]
  case undefU3 =>
    replace hwf := u3Ok_iff.1 hwf
    simp [decodeArm, decodeArm0, decodeMisc, hx, hwf, subfield x 25 3 23 5, subfield x 23 2 23 5,
      subbit x 7 4 4, subbit x 4 4 4, -BitVec.getLsbD_eq_getElem]
  case ldrImmPre | ldrImmPost | strImmPre | strImmPost | ldrbImmPre | ldrbImmPost | strbImmPre | strbImmPost | ldrtImm |
      strtImm | ldrbtImm | strbtImm =>
    simp [decodeArm, decodeLsImm, hx, -BitVec.getLsbD_eq_getElem]
  case ldrRegPre | ldrRegPost | strRegPre | strRegPost | ldrbRegPre | ldrbRegPost | strbRegPre | strbRegPost | ldrtReg |
      strtReg | ldrbtReg | strbtReg =>
    simp [decodeArm, decodeLsReg, hx, -BitVec.getLsbD_eq_getElem]
  case undefU5 | ldm | stm | b | bl | ldc | stc => simp [decodeArm, hx, -BitVec.getLsbD_eq_getElem]
  case cdp | mcr | mrc | swi =>
    simp [decodeArm, decodeCoproc, hx, subfield x 25 3 24 4, subbit x 24 24 4, -BitVec.getLsbD_eq_getElem]

theorem decodeThumb_of_encodesTo {i : Instr} {x : Half} (h : EncodesTo i (.thumb x)) : decodeThumb x = i := by
  obtain ⟨hwf, hx⟩ := h
  cases i <;> injection hx <;> rename_i hx <;> simp (decide := true) only [assembled_iff x] at hx
  case tLslImm | tLsrImm | tAsrImm =>
    simp [decodeThumb, decodeThumb12, hx, subfield x 12 4 11 5, joined x 13 3 11 2]
  case tAddReg | tSubReg | tAddImm3 | tSubImm3 =>
    simp [decodeThumb, decodeThumb12, hx, subfield x 12 4 11 5, subfield x 11 2 11 5]
  case tMovImm8 | tCmpImm8 | tAddImm8 | tSubImm8 | tStrImm | tLdrImm | tStrbImm | tLdrbImm =>
    simp [decodeThumb, hx, subfield x 12 4 11 5, joined x 13 3 11 2, subbit x 11 11 5, -BitVec.getLsbD_eq_getElem]
  case tAnd | tEor | tLsl | tLsr | tAsr | tAdc | tSbc | tRor | tTst | tNeg | tCmp | tCmn | tOrr | tMul | tBic | tMvn =>
    simp [decodeThumb, decodeThumb4, hx, subfield x 12 4 10 6, subbit x 11 10 6, subbit x 10 10 6,
      -BitVec.getLsbD_eq_getElem]
  case tAddHi | tCmpHi | tMovHi | tBx =>
    simp [decodeThumb, decodeThumb5, hx, subfield x 12 4 10 6, subbit x 11 10 6, subbit x 10 10 6,
      -BitVec.getLsbD_eq_getElem]
  case tLdrPc | tB | tUndefU3 | tBlPrefix | tBlSuffix =>
    simp [decodeThumb, hx, subfield x 12 4 11 5, subbit x 11 11 5, -BitVec.getLsbD_eq_getElem]
  case tStrReg | tStrbReg | tLdrReg | tLdrbReg | tStrhReg | tLdsbReg | tLdrhReg | tLdshReg =>
    simp [decodeThumb, decodeThumb78, hx]
  case tStrhImm | tLdrhImm | tStrSp | tLdrSp | tAddPc | tAddSp | tStmia | tLdmia =>
    simp [decodeThumb, hx, -BitVec.getLsbD_eq_getElem]
  case tPush | tPop => simp [decodeThumb, decodeThumbMisc, hx, -BitVec.getLsbD_eq_getElem]
  case tAddSpImm | tSubSpImm | tUndefU1a =>
    simp [decodeThumb, decodeThumbMisc, hx, subfield x 12 4 8 8, subfield x 9 2 8 8, subfield x 8 4 8 8,
      -BitVec.getLsbD_eq_getElem]
  case tUndefU1b | tUndefU1c | tUndefU1e =>
    cases h8 : x.getLsbD 8
    all_goals
      have h := extractLsb'_join hx.1 (extractLsb'_one h8) rfl
      simp [decodeThumb, decodeThumbMisc, hx, h, subfield x 12 4 8 8, subfield x 9 2 8 8, subfield x 8 4 8 8]
  case tUndefU1d =>
    cases h8 : x.extractLsb' 8 2 using twoBits
    all_goals
      have h := extractLsb'_join hx.1 h8 rfl
      simp [decodeThumb, decodeThumbMisc, hx, h, subfield x 12 4 8 8, subfield x 9 2 8 8, subfield x 8 4 8 8]
  case tBEq | tBNe | tBCs | tBCc | tBMi | tBPl | tBVs | tBVc | tBHi | tBLs | tBGe | tBLt | tBGt | tBLe =>
    simp [decodeThumb, decodeThumbCond, hx]
  case tUndefU2 | tSwi => simp [decodeThumb, decodeThumbCond, hx, subfield x 12 4 8 8, subfield x 8 4 8 8]

/-- Settles O1: what an encoding says of each field is what the decoder tests and reads, instruction by instruction. -/
theorem decodeOfEncode : Obligations.DecodeOfEncode := by
  intro i hwf
  cases h : encode i with
  | arm x => exact decodeArm_of_encodesTo ⟨hwf, h⟩
  | thumb x => exact decodeThumb_of_encodesTo ⟨hwf, h⟩

end Sys2Proof
end

section
/-! Proofs of the statements about 30_encoding.md: the opcode table -/

namespace Sys2Proof

/-! ## A field under a mask -/

section Mask

variable {N n lo : Nat} {v : BitVec n} {m : BitVec N}

theorem put_and_eq_zero (h : m.extractLsb' lo n = 0#n) : put N v lo &&& m = 0#N := by
  apply BitVec.eq_of_getLsbD_eq
  intro i hi
  have hm := extractLsb'_eq_iff.1 h (i - lo)
  have hv := BitVec.getLsbD_of_ge v (i - lo)
  simp only [BitVec.getLsbD_and, getLsbD_put]
  rw [BitVec.getLsbD_zero] at hm ⊢
  grind

theorem put_and_eq_self (h : m.extractLsb' lo n = BitVec.allOnes n) : put N v lo &&& m = put N v lo := by
  apply BitVec.eq_of_getLsbD_eq
  intro i hi
  have hm := extractLsb'_eq_iff.1 h (i - lo)
  have hv := BitVec.getLsbD_of_ge v (i - lo)
  simp only [BitVec.getLsbD_and, getLsbD_put]
  rw [BitVec.getLsbD_allOnes] at hm
  grind

theorem setWidth_put (v : BitVec n) (h : lo + n ≤ 16) : (put 16 v lo).setWidth 32 = put 32 v lo := by
  apply BitVec.eq_of_getLsbD_eq
  intro i hi
  have hv := BitVec.getLsbD_of_ge v (i - lo)
  rw [BitVec.getLsbD_setWidth, getLsbD_put, getLsbD_put]
  grind

end Mask

end Sys2Proof

namespace Sys2Proof.Machine

/-! ## Rows of the table -/

theorem OpRow.fits_of_eq {r : OpRow} {s : String} {p : Nat} {m v x : Word} (h : r = ⟨s, p, m, v⟩) (hx : x &&& m = v) :
    r.fits x = true := by
  subst h
  exact beq_iff_eq.2 hx

theorem OpRow.disjoint_self (r : OpRow) : r.disjoint r = false := by simp [OpRow.disjoint]

theorem OpRow.disjoint_comm (r q : OpRow) : r.disjoint q = q.disjoint r := by
  unfold OpRow.disjoint
  rw [BitVec.and_comm r.mask, BitVec.xor_comm]

theorem OpRow.not_fits_of_disjoint {r q : OpRow} {x : Word} (h : r.disjoint q = true) (hr : r.fits x = true) :
    q.fits x = false := by
  by_contra hq
  rw [Bool.not_eq_false] at hq
  rw [OpRow.fits, beq_iff_eq] at hr hq
  rw [OpRow.disjoint, bne_iff_ne, ← hr, ← hq] at h
  apply h
  apply BitVec.eq_of_getLsbD_eq
  intro i hi
  simp only [BitVec.getLsbD_and, BitVec.getLsbD_xor]
  grind

theorem rows_disjoint (isa : Isa) :
    (opTable isa).Pairwise fun r q => r.priority = q.priority → r.disjoint q = true := by
  cases isa <;> decide +kernel

theorem opTable_nodup (isa : Isa) : (opTable isa).Nodup :=
  (rows_disjoint isa).imp fun h e => by
    subst e
    simp [OpRow.disjoint_self] at h

theorem priority_le (isa : Isa) : ∀ r ∈ opTable isa, r.priority ≤ 3 := by
  cases isa <;> decide +kernel

theorem priority_thumb : ∀ r ∈ opTable .thumb, r.priority = 0 := by decide +kernel

theorem disjoint_of_priority_eq {isa : Isa} {r q : OpRow} (hr : r ∈ opTable isa) (hq : q ∈ opTable isa) (hne : r ≠ q)
    (hp : r.priority = q.priority) : r.disjoint q = true :=
  have : Std.Symm fun r q : OpRow => r.priority = q.priority → r.disjoint q = true :=
    ⟨fun r q h e => OpRow.disjoint_comm r q ▸ h e.symm⟩
  (rows_disjoint isa).forall hr hq hne hp

/-! ## What the lookup answers -/

theorem leastPriority_eq {rs : List OpRow} {r : OpRow} (hr : r ∈ rs) (h3 : r.priority ≤ 3)
    (h : ∀ q ∈ rs, r.priority ≤ q.priority) : leastPriority rs = r.priority := by
  have hmin : (rs.map OpRow.priority).min? = some r.priority :=
    List.min?_eq_some_iff.2 ⟨List.mem_map_of_mem hr, List.forall_mem_map.2 h⟩
  unfold leastPriority
  rw [← List.foldl_map (f := OpRow.priority) (g := min), List.foldl_min, hmin]
  simpa using h3

theorem lookup_of_fits {isa : Isa} {x : Word} {r : OpRow} (hr : r ∈ opTable isa) (hfit : r.fits x = true)
    (hlow : ∀ q ∈ opTable isa, q.priority < r.priority → q.fits x = false) : lookup isa x = some r := by
  have hleast : leastPriority ((opTable isa).filter fun r => r.fits x) = r.priority := by
    refine leastPriority_eq (List.mem_filter.2 ⟨hr, hfit⟩) (priority_le isa r hr) fun q hq => ?_
    obtain ⟨hq, hqfit⟩ := List.mem_filter.1 hq
    by_contra hlt
    simp [hlow q hq (Nat.lt_of_not_le hlt)] at hqfit
  have honly : (((opTable isa).filter fun r => r.fits x).filter fun q => q.priority == r.priority) = [r] := by
    rw [← List.perm_singleton,
      List.perm_ext_iff_of_nodup (((opTable_nodup isa).filter _).filter _) (List.nodup_singleton r)]
    intro q
    rw [List.mem_filter, List.mem_filter, List.mem_singleton, beq_iff_eq]
    refine ⟨fun ⟨⟨hq, hqfit⟩, hp⟩ => ?_, fun e => e.symm ▸ ⟨⟨hr, hfit⟩, rfl⟩⟩
    by_contra hne
    simp [OpRow.not_fits_of_disjoint (disjoint_of_priority_eq hq hr hne hp) hqfit] at hfit
  unfold lookup
  simp only [hleast, honly]

/-! ## The row of an instruction -/

/-- Where an instruction's row stands: each table lists its rows in the order of the instructions. -/
def rowIndex (i : Instr) : Nat :=
  match i.isa with
  | .arm => i.ctorIdx
  | .thumb => i.ctorIdx - armTable.length

theorem rowIndex_lt (i : Instr) : rowIndex i < (opTable i.isa).length := by
  cases i <;> exact Nat.le_of_ble_eq_true rfl

/-- The row of an instruction. -/
def rowOf (i : Instr) : OpRow := (opTable i.isa)[rowIndex i]'(rowIndex_lt i)

theorem rowOf_mem (i : Instr) : rowOf i ∈ opTable i.isa := List.getElem_mem _

theorem rowOf_mnemonic (i : Instr) : (rowOf i).mnemonic = mnemonic i := by cases i <;> rfl

/-- The encoding under the row's mask: a fixed field stays, an operand goes. -/
theorem rowOf_fits_arm {i : Instr} {x : Word} (h : encode i = .arm x) : (rowOf i).fits x = true := by
  cases i <;> injection h <;> subst x
  all_goals
    refine OpRow.fits_of_eq rfl ?_
    simp (decide := true) only [BitVec.and_or_distrib_right, put_and_eq_zero, BitVec.zero_or, BitVec.or_zero]

theorem rowOf_fits_thumb {i : Instr} {x : Half} (h : encode i = .thumb x) : (rowOf i).fits (x.setWidth 32) = true := by
  cases i <;> injection h <;> subst x
  all_goals
    refine OpRow.fits_of_eq rfl ?_
    simp (decide := true) only [BitVec.setWidth_or, setWidth_put, BitVec.and_or_distrib_right, put_and_eq_zero,
      BitVec.or_zero]

/-! ## The two rows that leave out what rows of less priority take (R178)

The row of U1 (of U3) itself is not disjoint from those rows; with the opcode bits of a well-formed U1 (U3) fixed it
is. -/

/-- The row of U1 with its opcode bits fixed. -/
def rowU1 (op : BitVec 5) : OpRow :=
  ⟨"UNDEF_U1", 1, 0x0FF000F0, put 32 0b000#3 25 ||| put 32 op 20 ||| put 32 0b1001#4 4⟩

/-- The row of U3 with bits 22:21 and 7:4 fixed. -/
def rowU3 (op : BitVec 2) (lo : BitVec 4) : OpRow :=
  ⟨"UNDEF_U3", 2, 0x0FF000F0, put 32 0b00010#5 23 ||| put 32 op 21 ||| put 32 0#1 20 ||| put 32 lo 4⟩

theorem rowU1_disjoint : ∀ op : BitVec 5, u1Op op = true → ∀ q ∈ opTable .arm, q.priority < 1 →
    (rowU1 op).disjoint q = true := by decide +kernel

theorem rowU3_disjoint : ∀ (op : BitVec 2) (lo : BitVec 4), u3Ok op lo = true → ∀ q ∈ opTable .arm, q.priority < 2 →
    (rowU3 op lo).disjoint q = true := by decide +kernel

theorem rowU1_fits {c : Cond} {op : BitVec 5} {x1 : BitVec 12} {x2 : BitVec 4} {x : Word}
    (h : encode (.undefU1 c op x1 x2) = .arm x) : (rowU1 op).fits x = true := by
  injection h
  subst x
  refine OpRow.fits_of_eq rfl ?_
  simp (decide := true) only [BitVec.and_or_distrib_right, put_and_eq_zero, put_and_eq_self, BitVec.zero_or,
    BitVec.or_zero]

theorem rowU3_fits {c : Cond} {op : BitVec 2} {x1 : BitVec 12} {lo x2 : BitVec 4} {x : Word}
    (h : encode (.undefU3 c op x1 lo x2) = .arm x) : (rowU3 op lo).fits x = true := by
  injection h
  subst x
  refine OpRow.fits_of_eq rfl ?_
  simp (decide := true) only [BitVec.and_or_distrib_right, put_and_eq_zero, put_and_eq_self, BitVec.zero_or,
    BitVec.or_zero]

/-! ## The row that the lookup finds for an encoding -/

theorem lookup_arm {i : Instr} {x : Word} (h : EncodesTo i (.arm x)) : lookup .arm x = some (rowOf i) := by
  have hisa : i.isa = .arm := h.isa
  obtain ⟨hwf, hx⟩ := h
  refine lookup_of_fits (hisa ▸ rowOf_mem i) (rowOf_fits_arm hx) fun q hq hlt => ?_
  cases i
  case undefU1 c op x1 x2 => exact OpRow.not_fits_of_disjoint (rowU1_disjoint op hwf q hq hlt) (rowU1_fits hx)
  case undefU3 c op x1 lo x2 => exact OpRow.not_fits_of_disjoint (rowU3_disjoint op lo hwf q hq hlt) (rowU3_fits hx)
  all_goals exact absurd hlt (Nat.not_lt_zero _)

theorem lookup_thumb {i : Instr} {x : Half} (h : EncodesTo i (.thumb x)) :
    lookup .thumb (x.setWidth 32) = some (rowOf i) := by
  have hisa : i.isa = .thumb := h.isa
  have hmem : rowOf i ∈ opTable .thumb := hisa ▸ rowOf_mem i
  refine lookup_of_fits hmem (rowOf_fits_thumb h.2) fun q _ hlt => ?_
  rw [priority_thumb _ hmem] at hlt
  exact absurd hlt (Nat.not_lt_zero _)

/-- Settles O4: a word is the encoding of what it decodes to, and the lookup finds that instruction's row. -/
theorem tableLookup : Obligations.TableLookup := by
  refine ⟨fun x => ?_, fun x => ?_⟩
  · rw [lookup_arm (decodeArm_encodesTo x), Option.map_some, rowOf_mnemonic]
  · rw [lookup_thumb (decodeThumb_encodesTo x), Option.map_some, rowOf_mnemonic]

end Sys2Proof.Machine
end

section
/-! Proofs of the statements about 40_arm_branch.md: B and BL (R200, R201), and BX of both instruction sets (R202,
R433). -/

namespace Sys2Proof.Machine

open Sys2Proof.Spec

/-! ## What a branch does -/

theorem branch_jumps (s : State) (a : Word) : Jumps (s.branch a) a := ⟨rfl, branch_pc_toNat s a⟩

theorem reg_branch {r : RegNo} (h : r ≠ 15#4) (s : State) (a : Word) : (s.branch a).reg r = s.reg r :=
  regIn_congr h (branch_regs s a)

theorem setReg_regsBut (s : State) (r : RegNo) (v : Word) : RegsBut s (s.setReg r v) [r] :=
  fun _ hp => setReg_regs_other v (hp r List.mem_cons_self)

/-- The number of a format 5 register: the H flag is its bit 3 (R429). -/
theorem hiReg_eq_high (h : Bool) (r : LowReg) : hiReg h r = high h r := by revert h r; decide

/-! ## B and BL -/

/-- The word sum of an ARM branch is the exact one modulo 2^32: two zero bits below the offset multiply its signed
value by 4 (R163). -/
theorem armTarget_eq_ofInt (s : State) (off : BitVec 24) :
    s.armTarget off = BitVec.ofInt 32 (s.pc.toNat + 4 * off.toInt) := by
  have hoff : (off ++ 0#2).toInt = 4 * off.toInt := by
    rw [BitVec.toInt_append_zero]; omega
  have hpc : BitVec.ofInt 32 s.pc.toNat = s.pc := by rw [BitVec.ofInt_natCast, BitVec.ofNat_toNat, BitVec.setWidth_eq]
  rw [State.armTarget, reg_pc, BitVec.signExtend, hoff, BitVec.ofInt_add, hpc]

section Passed

variable {c : Cond} {s : State} (h : condPassed c s.cpsr = true)
include h

theorem exec_b_passed (off : BitVec 24) : exec (.b c off) s = .next (s.branch (s.armTarget off)) := runArm_passed h _ _

theorem exec_bl_passed (off : BitVec 24) :
    exec (.bl c off) s = .next ((s.setReg 14#4 (s.pc - 4)).branch (s.armTarget off)) := by
  rw [← reg_pc s]; exact runArm_passed h _ _

theorem exec_bx_passed (x1 : BitVec 12) (rm : RegNo) :
    exec (.bx c x1 rm) s = .next (s.branchExchange (s.reg rm)) := runArm_passed h _ _

end Passed

/-- Settles O19: both forms branch to `armTarget`, BL after a write of R14, which the branch leaves alone. -/
theorem armBranches : Obligations.ArmBranches := by
  intro c off s _ hc
  dsimp only
  rw [← armTarget_eq_ofInt]
  have h14 : 14#4 ≠ 15#4 := by decide
  refine ⟨⟨_, exec_b_passed hc off, branch_jumps _ _, branch_only _ _⟩,
    _, exec_bl_passed hc off, branch_jumps _ _, ?_, setReg_regsBut s 14#4 _, ?_⟩
  · rw [reg_branch h14, reg_setReg_same _ h14]
  · rw [branch_only, setReg_only]

/-! ## BX -/

theorem exec_tBx (h1 h2 : Bool) (rs : LowReg) (x1 : BitVec 3) (s : State) :
    exec (.tBx h1 h2 rs x1) s = .next (s.branchExchange (s.reg (high h2 rs))) := by
  rw [← hiReg_eq_high]; rfl

/-- BX is a branch that finds the instruction set already changed, so its target is aligned for the new one (R202). -/
theorem branchExchange_jumps (s : State) (v : Word) : Jumps (s.branchExchange v) v := branch_jumps _ v

theorem branchExchange_only (s : State) (v : Word) :
    s.branchExchange v = { s with
      cpsr := { s.cpsr with t := v.getLsbD 0 }
      pc := (s.branchExchange v).pc
      bubble := (s.branchExchange v).bubble } := rfl

/-- Settles O20: both forms are the `branchExchange` of their register. -/
theorem branchExchange : Obligations.BranchExchange := fun s =>
  ⟨fun _ x1 rm hc => ⟨_, exec_bx_passed hc x1 rm, branchExchange_jumps s _, branchExchange_only s _⟩,
    fun h1 h2 rs x1 => ⟨_, exec_tBx h1 h2 rs x1 s, branchExchange_jumps s _, branchExchange_only s _⟩⟩

end Sys2Proof.Machine
end

section
/-! Proofs of the statements about 41_arm_data_processing.md, first part: the shifter (R221, R222, R223). Whatever the
amount, one word shift says what each type of shift leaves; the boundary amounts 0 and 32 and above are in its lemma. -/

namespace Sys2Proof.Machine

open Sys2Proof.Spec

/-! ## Bits and amounts -/

theorem msb_eq_bit31 (m : Word) : m.msb = m.getLsbD 31 := BitVec.msb_eq_getLsbD_last m

theorem getLsbD_rotateRight_mod (m : Word) (k : Nat) {i : Nat} (h : i < 32) :
    (m.rotateRight k).getLsbD i = m.getLsbD ((i + k) % 32) := by
  rw [BitVec.getLsbD_rotateRight]
  by_cases hk : i < 32 - k % 32
  · rw [decide_eq_true hk, cond_true, show (i + k) % 32 = k % 32 + i by omega]
  · rw [decide_eq_false hk, cond_false, decide_eq_true h, Bool.true_and,
      show (i + k) % 32 = i - (32 - k % 32) by omega]

/-- From 32 on an arithmetic right shift leaves the sign alone. -/
theorem signFill_eq_sshiftRight (m : Word) {k : Nat} (h : 32 ≤ k) : signFill m = m.sshiftRight k := by
  have fill : signFill m = if m.msb then BitVec.allOnes 32 else 0#32 := rfl
  ext i hi
  rw [fill, BitVec.getElem_sshiftRight, dif_neg (by omega)]
  cases m.msb
  · exact BitVec.getElem_zero hi
  · exact BitVec.getElem_allOnes i hi

/-- The amount of a right shift by an immediate: 0 means 32 (R222). -/
def rightAmount (n : BitVec 5) : Nat := if n = 0 then 32 else n.toNat

theorem rightAmount_zero : rightAmount 0 = 32 := rfl

theorem rightAmount_ne {n : BitVec 5} (h : n.toNat ≠ 0) : rightAmount n = n.toNat :=
  if_neg fun k => h (by rw [k]; rfl)

/-! ## The register shifted by an immediate -/

section Imm

variable (n : BitVec 5) (m : Word) (c : Bool)

theorem shiftImm_lsl_op2 : (shiftImm .lsl n m c).op2 = m <<< n.toNat := by
  by_cases h : n.toNat = 0 <;> simp [shiftImm, h]

theorem shiftImm_lsl_sc : (shiftImm .lsl n m c).sc = if n.toNat = 0 then c else m.getLsbD (32 - n.toNat) := by
  by_cases h : n.toNat = 0 <;> simp [shiftImm, h]

theorem shiftImm_lsr : shiftImm .lsr n m c = ⟨m >>> rightAmount n, m.getLsbD (rightAmount n - 1)⟩ := by
  by_cases h : n.toNat = 0
  · obtain rfl : n = 0 := BitVec.eq_of_toNat_eq h
    rw [rightAmount_zero, BitVec.ushiftRight_eq_zero (le_refl 32), ← msb_eq_bit31]
    rfl
  · rw [rightAmount_ne h]; exact if_neg h

theorem shiftImm_asr : shiftImm .asr n m c = ⟨m.sshiftRight (rightAmount n), m.getLsbD (rightAmount n - 1)⟩ := by
  by_cases h : n.toNat = 0
  · obtain rfl : n = 0 := BitVec.eq_of_toNat_eq h
    rw [rightAmount_zero, ← signFill_eq_sshiftRight m (le_refl 32), ← msb_eq_bit31]
    rfl
  · rw [rightAmount_ne h]; exact if_neg h

/-- ROR #0 is RRX: the carry comes in at bit 31 and bit 0 goes out (R222). -/
theorem shiftImm_ror_getLsbD {i : Nat} (hi : i < 32) : (shiftImm .ror n m c).op2.getLsbD i =
    if n.toNat = 0 then (if i = 31 then c else m.getLsbD (i + 1)) else m.getLsbD ((i + n.toNat) % 32) := by
  by_cases h : n.toNat = 0
  · by_cases h31 : i = 31
    · subst h31; cases c <;> simp [shiftImm, h]
    · have : i < 31 := by omega
      simp [shiftImm, h, h31, this, Nat.add_comm 1 i]
  · rw [if_neg h, ← getLsbD_rotateRight_mod m n.toNat hi]
    simp only [shiftImm, h, if_false]

theorem shiftImm_ror_sc :
    (shiftImm .ror n m c).sc = if n.toNat = 0 then m.getLsbD 0 else m.getLsbD (n.toNat - 1) := by
  by_cases h : n.toNat = 0 <;> simp [shiftImm, h]

end Imm

/-! ## The register shifted by a register -/

theorem shiftReg_zero (t : Shift) {b : Byte} (h : b.toNat = 0) (m : Word) (c : Bool) : shiftReg t b m c = ⟨m, c⟩ :=
  if_pos h

section Reg

variable {b : Byte} (h : b.toNat ≠ 0) (m : Word) (c : Bool)
include h

theorem shiftReg_lsl :
    shiftReg .lsl b m c = ⟨m <<< b.toNat, if b.toNat ≤ 32 then m.getLsbD (32 - b.toNat) else false⟩ := by
  rcases Nat.lt_trichotomy b.toNat 32 with k | k | k
  · simp [shiftReg, h, k, k.le]
  · simp [shiftReg, k]
  · simp [shiftReg, h, k.not_gt, k.ne', k.not_ge, k.le]

theorem shiftReg_lsr :
    shiftReg .lsr b m c = ⟨m >>> b.toNat, if b.toNat ≤ 32 then m.getLsbD (b.toNat - 1) else false⟩ := by
  rcases Nat.lt_trichotomy b.toNat 32 with k | k | k
  · simp [shiftReg, h, k, k.le]
  · simp [shiftReg, k, msb_eq_bit31, BitVec.ushiftRight_eq_zero]
  · simp [shiftReg, h, k.not_gt, k.ne', k.not_ge, BitVec.ushiftRight_eq_zero k.le]

theorem shiftReg_asr : shiftReg .asr b m c = ⟨m.sshiftRight b.toNat, m.getLsbD (min b.toNat 32 - 1)⟩ := by
  by_cases k : b.toNat < 32
  · simp [shiftReg, h, k, min_eq_left k.le]
  · have k' : 32 ≤ b.toNat := Nat.le_of_not_lt k
    simp [shiftReg, h, k, min_eq_right k', signFill_eq_sshiftRight m k', msb_eq_bit31]

theorem shiftReg_ror : shiftReg .ror b m c = ⟨m.rotateRight b.toNat, m.getLsbD ((b.toNat - 1) % 32)⟩ := by
  rw [← BitVec.rotateRight_mod_eq_rotateRight]
  by_cases k : b.toNat % 32 = 0
  · have hsc : (b.toNat - 1) % 32 = 31 := by omega
    have hrot : m.rotateRight 0 = m := BitVec.eq_of_getLsbD_eq fun i hi => by
      rw [getLsbD_rotateRight_mod m 0 hi, Nat.add_zero, Nat.mod_eq_of_lt hi]
    simp [shiftReg, h, k, hsc, hrot, msb_eq_bit31]
  · have hsc : (b.toNat - 1) % 32 = b.toNat % 32 - 1 := by omega
    simp [shiftReg, h, k, hsc]

end Reg

/-! ## As arithmetic -/

theorem toNat_shiftLeft_mul (m : Word) (k : Nat) : (m <<< k).toNat = m.toNat * 2 ^ k % 2 ^ 32 := by
  rw [BitVec.toNat_shiftLeft, Nat.shiftLeft_eq]

theorem toNat_ushiftRight_div (m : Word) (k : Nat) : (m >>> k).toNat = m.toNat / 2 ^ k := by
  rw [BitVec.toNat_ushiftRight, Nat.shiftRight_eq_div_pow]

theorem toInt_sshiftRight_div (m : Word) (k : Nat) : (m.sshiftRight k).toInt = m.toInt / 2 ^ k := by
  rw [BitVec.toInt_sshiftRight, Int.shiftRight_eq_div_pow]; norm_cast

theorem rotImm_getLsbD (rot : BitVec 4) (k : BitVec 8) (c : Bool) {i : Nat} (hi : i < 32) :
    (rotImm rot k c).op2.getLsbD i = (BitVec.setWidth 32 k).getLsbD ((i + 2 * rot.toNat) % 32) :=
  getLsbD_rotateRight_mod _ _ hi

theorem rotImm_sc (rot : BitVec 4) (k : BitVec 8) (c : Bool) :
    (rotImm rot k c).sc = if rot = 0 then c else (rotImm rot k c).op2.getLsbD 31 := by
  rw [← msb_eq_bit31]; rfl

/-- Settles O9: each type of shift is the word shift of its lemma, and the word shifts are the arithmetic ones. -/
theorem shiftedOperands : Obligations.ShiftedOperands := by
  refine ⟨fun rot k c => ⟨fun i hi => rotImm_getLsbD rot k c hi, rotImm_sc rot k c⟩, ?imm, ?reg⟩
  case imm =>
    intro n m c
    refine ⟨?_, shiftImm_lsl_sc n m c, ?_, ?_, ?_, ?_, fun i hi => shiftImm_ror_getLsbD n m c hi,
      shiftImm_ror_sc n m c⟩
    · rw [shiftImm_lsl_op2]; exact toNat_shiftLeft_mul _ _
    · rw [shiftImm_lsr]; exact toNat_ushiftRight_div _ _
    · rw [shiftImm_lsr]; rfl
    · rw [shiftImm_asr]; exact toInt_sshiftRight_div _ _
    · rw [shiftImm_asr]; rfl
  case reg =>
    intro b m c
    refine ⟨fun t h => shiftReg_zero t h m c, fun h => ?_⟩
    rw [shiftReg_lsl h, shiftReg_lsr h, shiftReg_asr h, shiftReg_ror h]
    exact ⟨toNat_shiftLeft_mul _ _, rfl, toNat_ushiftRight_div _ _, rfl, toInt_sshiftRight_div _ _, rfl,
      fun i hi => getLsbD_rotateRight_mod _ _ hi, rfl⟩

end Sys2Proof.Machine
end

section
/-! Proofs of the statements about 41_arm_data_processing.md, second part: the sixteen operations (R225 to R245). One
lemma says which operation of the model an instruction runs, one what that operation computes; the register write is
then the same for all. -/

namespace Sys2Proof.Machine

open Sys2Proof.Spec

/-! ## Which operation an instruction runs -/

/-- The model's operation for each of the twelve that write a register. -/
def dpAlu : DpOp → Alu
  | .arith .sub => aluSub
  | .arith .rsb => aluRsb
  | .arith .add => aluAdd
  | .arith .adc => aluAdc
  | .arith .sbc => aluSbc
  | .arith .rsc => aluRsc
  | .logic .and => aluAnd
  | .logic .eor => aluEor
  | .logic .orr => aluOrr
  | .logic .mov => aluMov
  | .logic .bic => aluBic
  | .logic .mvn => aluMvn

/-- The model's operation for each test and compare. -/
def testAlu : TestOp → Alu
  | .tst => aluTst
  | .teq => aluTeq
  | .cmp => aluCmp
  | .cmn => aluCmn

/-- The output of an operation on the operands of a form. -/
def aluOut (f : Alu) (x : Op2) (rn : RegNo) (s : State) : AluOut := f (x.reads s rn) (x.shifted s) s.cpsr

section Passed

variable {c : Cond} {s : State} (ht : s.cpsr.t = false) (hc : condPassed c s.cpsr = true)
include ht

/-- The operands of the register-shift form are those of R224. -/
theorem regShift_operands (f : Alu) (rn rs : RegNo) (t : Shift) (rm : RegNo) :
    f (s.regShiftOperand rn) (s.regShifted t rs rm) s.cpsr = aluOut f (.shiftReg rs t rm) rn s := by
  unfold State.regShifted
  rw [regShiftOperand_arm ht, regShiftOperand_arm ht, regShiftOperand_arm ht]
  rfl

include hc

theorem exec_dp_passed (o : DpOp) (x : Op2) (S : Bool) (rn rd : RegNo) :
    exec (o.instr x c S rn rd) s = .next ((s.dpWrite S rd (aluOut (dpAlu o) x rn s)).internal x.cycles) := by
  cases x with
  | imm rot k =>
    trans dpImm (dpAlu o) c S rn rd rot k s
    · rcases o with o | o <;> cases o <;> rfl
    · exact dpImm_passed hc ..
  | shiftImm n t rm =>
    trans dpShiftImm (dpAlu o) c S rn rd n t rm s
    · rcases o with o | o <;> cases o <;> rfl
    · exact dpShiftImm_passed hc ..
  | shiftReg rs t rm =>
    rw [← regShift_operands ht]
    trans dpShiftReg (dpAlu o) c S rn rd rs t rm s
    · rcases o with o | o <;> cases o <;> rfl
    · exact dpShiftReg_passed hc ..

theorem exec_test_passed (o : TestOp) (x : Op2) (rn rd : RegNo) :
    exec (o.instr x c rn rd) s = .next ((s.dpTest (aluOut (testAlu o) x rn s)).internal x.cycles) := by
  cases x with
  | imm rot k =>
    trans testImm (testAlu o) c rn rot k s
    · cases o <;> rfl
    · exact runArm_passed hc ..
  | shiftImm n t rm =>
    trans testShiftImm (testAlu o) c rn n t rm s
    · cases o <;> rfl
    · exact runArm_passed hc ..
  | shiftReg rs t rm =>
    rw [← regShift_operands ht]
    trans testShiftReg (testAlu o) c rn rd rs t rm s
    · cases o <;> rfl
    · exact runArm_passed hc ..

end Passed

/-! ## What an operation computes -/

theorem setNZ_eq_nzOf (p : Cpsr) (r : Word) : p.setNZ r = nzOf p r := by
  have hz : (r == 0) = decide (r.toNat = 0) := by
    rw [beq_eq_decide]; exact decide_eq_decide.mpr (BitVec.toNat_inj (y := 0)).symm
  unfold Cpsr.setNZ nzOf
  rw [msb_eq_bit31, hz]

theorem logicOut_eq (r : Word) (b : Shifted) (p : Cpsr) : logicOut r b p = ⟨r, logicFlags p r b.sc⟩ := by
  unfold logicOut Cpsr.logic logicFlags; rw [setNZ_eq_nzOf]

theorem toInt_not_eq (b : Word) : (~~~b).toInt = -1 - b.toInt := by
  have hb := b.isLt
  rw [BitVec.toInt_eq_toNat_cond, BitVec.toInt_eq_toNat_cond, BitVec.toNat_not]
  split <;> split <;> omega

/-- An `AddResult` with the components of an exact unsigned result `u` and an exact signed result `v`. -/
theorem arithOut_eq {x : AddResult} {adds : Bool} {u v : Int} (p : Cpsr) (hr : (x.r.toNat : Int) = u % 2 ^ 32)
    (hc : x.c = true ↔ (if adds then 2 ^ 32 else 0) ≤ u) (hv : x.v = true ↔ v < -2 ^ 31 ∨ 2 ^ 31 ≤ v) :
    arithOut x p = ⟨BitVec.ofInt 32 u, arithFlags p adds u v⟩ := by
  have er : x.r = BitVec.ofInt 32 u := BitVec.eq_of_toNat_eq (by rw [BitVec.toNat_ofInt]; omega)
  have ec : x.c = if adds then decide (2 ^ 32 ≤ u) else decide (0 ≤ u) := by
    cases adds <;> exact Bool.eq_iff_iff.mpr (hc.trans decide_eq_true_iff.symm)
  have ev : x.v = decide (v < -2 ^ 31 ∨ 2 ^ 31 ≤ v) := Bool.eq_iff_iff.mpr (hv.trans decide_eq_true_iff.symm)
  unfold arithOut Cpsr.arith arithFlags
  rw [setNZ_eq_nzOf, er, ec, ev]

theorem arithOut_sum (a b : Word) (c : Bool) (p : Cpsr) :
    arithOut (addWithCarry a b c) p =
      ⟨BitVec.ofInt 32 (a.toNat + b.toNat + c.toNat),
        arithFlags p true (a.toNat + b.toNat + c.toNat) (a.toInt + b.toInt + c.toNat)⟩ := by
  apply arithOut_eq
  · rw [addWithCarry_r_toNat]; rfl
  · rw [addWithCarry_c_iff, if_pos rfl]; omega
  · rw [addWithCarry_v_iff]; omega

/-- The complement turns the sum into a difference, and the carry into no borrow (R16). -/
theorem arithOut_difference (a b : Word) (c : Bool) (p : Cpsr) :
    arithOut (addWithCarry a (~~~b) c) p =
      ⟨BitVec.ofInt 32 (a.toNat - b.toNat - (!c).toNat),
        arithFlags p false (a.toNat - b.toNat - (!c).toNat) (a.toInt - b.toInt - (!c).toNat)⟩ := by
  have hb := b.isLt
  have hn : (~~~b).toNat = 2 ^ 32 - 1 - b.toNat := BitVec.toNat_not
  have hcarry : (!c).toNat = 1 - c.toNat := by cases c <;> rfl
  have hle := c.toNat_le
  apply arithOut_eq
  · rw [addWithCarry_r_toNat]; omega
  · rw [addWithCarry_c_iff, if_neg Bool.false_ne_true]; omega
  · rw [addWithCarry_v_iff, toInt_not_eq]; omega

theorem dpAlu_logic (o : LogicOp) (a : Word) (b : Shifted) (p : Cpsr) :
    dpAlu (.logic o) a b p = ⟨o.result a b.op2, logicFlags p (o.result a b.op2) b.sc⟩ := by
  cases o <;> exact logicOut_eq ..

/-- SUB is SBC with the carry set. -/
theorem exact_sub (a b : Int) (c : Bool) : ArithOp.exact .sub a b c = ArithOp.exact .sbc a b true := (sub_zero _).symm

/-- RSB is RSC with the carry set. -/
theorem exact_rsb (a b : Int) (c : Bool) : ArithOp.exact .rsb a b c = ArithOp.exact .rsc a b true := (sub_zero _).symm

/-- ADD is ADC with the carry clear. -/
theorem exact_add (a b : Int) (c : Bool) : ArithOp.exact .add a b c = ArithOp.exact .adc a b false := (add_zero _).symm

theorem dpAlu_arith (o : ArithOp) (a : Word) (b : Shifted) (p : Cpsr) :
    dpAlu (.arith o) a b p = ⟨o.result a b.op2 p.c, o.flags a b.op2 p⟩ := by
  unfold ArithOp.result ArithOp.flags
  cases o with
  | sub => rw [exact_sub, exact_sub]; exact arithOut_difference a b.op2 true p
  | rsb => rw [exact_rsb, exact_rsb]; exact arithOut_difference b.op2 a true p
  | add => rw [exact_add, exact_add]; exact arithOut_sum a b.op2 false p
  | adc => exact arithOut_sum a b.op2 p.c p
  | sbc => exact arithOut_difference a b.op2 p.c p
  | rsc => exact arithOut_difference b.op2 a p.c p

theorem dpAlu_r (o : DpOp) (a : Word) (b : Shifted) (p : Cpsr) : (dpAlu o a b p).r = o.result a b.op2 p.c := by
  cases o with
  | arith o => rw [dpAlu_arith]; rfl
  | logic o => rw [dpAlu_logic]; rfl

theorem testAlu_p (o : TestOp) (a : Word) (b : Shifted) (p : Cpsr) : (testAlu o a b p).p = o.flags a b p := by
  cases o with
  | tst => exact congrArg AluOut.p (dpAlu_logic .and a b p)
  | teq => exact congrArg AluOut.p (dpAlu_logic .eor a b p)
  | cmp => exact congrArg AluOut.p (dpAlu_arith .sub a b p)
  | cmn => exact congrArg AluOut.p (dpAlu_arith .add a b p)

theorem dpAlu_keepsControl (o : DpOp) : KeepsControl (dpAlu o) := by
  rcases o with o | o <;> cases o <;> exact fun _ _ _ => rfl

/-! ## The register write -/

section Write

variable (s : State) (S : Bool) (y : AluOut) (k : Nat)

theorem dpWrite_cpuOnly (rd : RegNo) : CpuOnly s ((s.dpWrite S rd y).internal k) := by
  unfold CpuOnly; rw [internal_only, dpWrite_only]

theorem dpWrite_clocks (rd : RegNo) : ((s.dpWrite S rd y).internal k).stepClocks = s.stepClocks + k :=
  congrArg (· + k) (dpWrite_stepClocks s S rd y)

section Register

variable {rd : RegNo} (h : rd ≠ 15#4)
include h

theorem dpWrite_ne_pc : s.dpWrite S rd y = { s.setReg rd y.r with cpsr := if S then y.p else s.cpsr } := by
  unfold State.dpWrite
  rw [if_neg h, ← setReg_cpsr s rd y.r]
  cases S <;> rfl

theorem dpWrite_cpsr_ne : (s.dpWrite S rd y).cpsr = if S then y.p else s.cpsr := by rw [dpWrite_ne_pc s S y h]

theorem dpWrite_stays : Stays s (s.dpWrite S rd y) := by
  rw [dpWrite_ne_pc s S y h]; exact setRegIn_keeps_pc y.r h

theorem dpWrite_regsBut : RegsBut s (s.dpWrite S rd y) [rd] := by
  rw [dpWrite_ne_pc s S y h]; exact setReg_regsBut s rd y.r

/-- The flags keep the mode, so Rd still denotes the copy that was written. -/
theorem reg_dpWrite {y : AluOut} (hy : s.cpsr.FlagsOnly y.p) : (s.dpWrite S rd y).reg rd = y.r := by
  have hmode : (s.dpWrite S rd y).cpsr.mode = s.cpsr.mode := by
    rw [dpWrite_cpsr_ne s S y h]; cases S
    · rfl
    · exact hy.mode
  have hregs : (s.dpWrite S rd y).regs = (s.setReg rd y.r).regs := by rw [dpWrite_ne_pc s S y h]
  rw [State.reg, hmode, regIn_congr h hregs]
  exact regIn_setRegIn_same y.r h

end Register

/-- With S a write of R15 has restored CPSR before it branches (R615). -/
theorem dpWrite_restored : if S then Restored s (s.dpWrite S 15#4 y) else (s.dpWrite S 15#4 y).cpsr = s.cpsr := by
  rw [dpWrite_pc]
  cases S
  · rfl
  · unfold Restored
    simp only [if_true, branch_cpsr]
    cases h : s.spsr.get? s.cpsr.mode with
    | none => rw [restoreCpsr_none h]
    | some p => rw [restoreCpsr_some h]; exact ⟨rfl, rfl, rfl, rfl, rfl, rfl, rfl, rfl⟩

theorem dpWrite_jumps : Jumps (s.dpWrite S 15#4 y) y.r := by rw [dpWrite_pc]; exact branch_jumps _ _

theorem dpWrite_pc_regs : (s.dpWrite S 15#4 y).regs = s.regs := by
  rw [dpWrite_pc, branch_regs]
  cases S
  · rfl
  · exact restoreCpsr_regs s

end Write

/-! ## The statements -/

/-- What every operation does with Rd other than R15: the output's result in Rd, with S its status word in CPSR. -/
theorem exec_dp_register {c : Cond} {s : State} {rd : RegNo} (ht : s.cpsr.t = false)
    (hc : condPassed c s.cpsr = true) (h : rd ≠ 15#4) (o : DpOp) (x : Op2) (S : Bool) (rn : RegNo) :
    let y := aluOut (dpAlu o) x rn s
    ∃ t, exec (o.instr x c S rn rd) s = .next t ∧
      t.reg rd = y.r ∧ t.cpsr = (if S then y.p else s.cpsr) ∧
      RegsBut s t [rd] ∧ Stays s t ∧ CpuOnly s t ∧ t.stepClocks = s.stepClocks + x.cycles :=
  ⟨_, exec_dp_passed ht hc o x S rn rd, reg_dpWrite s S h (dpAlu_keepsControl o _ _ _), dpWrite_cpsr_ne s S _ h,
    dpWrite_regsBut s S _ h, dpWrite_stays s S _ h, dpWrite_cpuOnly s S _ _ rd, dpWrite_clocks s S _ _ rd⟩

/-- Settles O10: the register write with what a logical operation computes. -/
theorem dpLogic : Obligations.DpLogic := by
  intro o x c S rn rd s ht hc h
  have key := exec_dp_register ht hc h (.logic o) x S rn
  rwa [aluOut, dpAlu_logic] at key

/-- Settles O11: the register write with what an arithmetic operation computes. -/
theorem dpArith : Obligations.DpArith := by
  intro o x c S rn rd s ht hc h
  have key := exec_dp_register ht hc h (.arith o) x S rn
  rwa [aluOut, dpAlu_arith] at key

/-- Settles O12: a test writes its operation's status word and charges its form's cycles. -/
theorem dpTests : Obligations.DpTests := by
  intro o x c rn rd s ht hc
  rw [exec_test_passed ht hc, State.dpTest, aluOut, testAlu_p]
  rfl

/-- Settles O13: with Rd = R15 the register write is a branch, after the exception return when S is set. -/
theorem dpWritesPc : Obligations.DpWritesPc := by
  intro o x c S rn s ht hc
  have hexec := exec_dp_passed ht hc o x S rn 15#4
  have hr : (aluOut (dpAlu o) x rn s).r = o.result (x.reads s rn) (x.shifted s).op2 s.cpsr.c := dpAlu_r ..
  rw [← hr]
  generalize aluOut (dpAlu o) x rn s = y at hexec ⊢
  exact ⟨_, hexec, dpWrite_restored s S y, dpWrite_jumps s S y, dpWrite_pc_regs s S y,
    dpWrite_cpuOnly s S y _ _, dpWrite_clocks s S y _ _⟩

end Sys2Proof.Machine
end

section
/-! Proofs of the statements about 42_arm_psr_multiply.md, first part: MRS and MSR (R280 to R283). -/

namespace Sys2Proof.Machine

open Sys2Proof.Spec

/-! ## What a register write does -/

theorem setReg_writes (s : State) (r : RegNo) (v : Word) : Writes s (s.setReg r v) r v := by
  unfold Writes
  split
  · subst r; rw [setReg_pc_is_branch]; exact branch_jumps s v
  · next h => exact ⟨reg_setReg_same v h, setRegIn_keeps_pc v h⟩

theorem setReg_cpuOnly (s : State) (r : RegNo) (v : Word) : CpuOnly s (s.setReg r v) := by
  unfold CpuOnly; rw [setReg_only]

/-! ## The status words -/

/-- A status word as R46 lays it out, grouped from the right. -/
theorem Spsr.toWord_eq (p : Spsr) : p.toWord = p.flags ++ (0#20 ++ p.ctrl) := BitVec.append_assoc

theorem mrsValue_cpsr (s : State) :
    s.mrsValue false = (savedWord s.cpsr).flags ++ (0#20 ++ (savedWord s.cpsr).ctrl) :=
  Spsr.toWord_eq (savedWord s.cpsr)

theorem mrsValue_spsr (s : State) :
    s.mrsValue true =
      match s.spsr.get? s.cpsr.mode with
      | some p => p.flags ++ (0#20 ++ p.ctrl)
      | none => Config.spsrNoneValue := by
  unfold State.mrsValue State.spsr?
  cases s.spsr.get? s.cpsr.mode with
  | none => rfl
  | some p => exact p.toWord_eq

theorem Cpsr.msr_eq (p : Cpsr) (f : BitVec 4) (op : Word) :
    p.msr f op =
      { n := if f.getLsbD 3 then op.getLsbD 31 else p.n
        z := if f.getLsbD 3 then op.getLsbD 30 else p.z
        c := if f.getLsbD 3 then op.getLsbD 29 else p.c
        v := if f.getLsbD 3 then op.getLsbD 28 else p.v
        i := if f.getLsbD 0 && p.mode != .user then op.getLsbD 7 else p.i
        f := if f.getLsbD 0 && p.mode != .user then op.getLsbD 6 else p.f
        t := p.t
        mode :=
          if f.getLsbD 0 && p.mode != .user then (Mode.ofCode (op.extractLsb' 0 5)).getD p.mode else p.mode } := by
  unfold Cpsr.msr Mode.privileged
  cases f.getLsbD 3 <;> cases f.getLsbD 0 && p.mode != .user <;> rfl

/-- A written SPSR reads back in its mode, if that mode has one (R48, R49); the others stay. -/
theorem SpsrBank.get?_set (b : SpsrBank) (m n : Mode) (p : Spsr) :
    (b.set m p).get? n = if n = m then (b.get? n).map fun _ => p else b.get? n := by
  cases m <;> cases n <;> rfl

theorem msrWrite_none {s : State} (h : s.spsr.get? s.cpsr.mode = none) (f : BitVec 4) (op : Word) :
    s.msrWrite true f op = s := by
  unfold State.msrWrite State.spsr?; rw [h]; rfl

theorem msrWrite_some {s : State} {p : Spsr} (h : s.spsr.get? s.cpsr.mode = some p) (f : BitVec 4) (op : Word) :
    s.msrWrite true f op = { s with spsr := s.spsr.set s.cpsr.mode (p.msr f op) } := by
  unfold State.msrWrite State.spsr?; rw [h]; rfl

theorem msrWrite_spsr_only (s : State) (f : BitVec 4) (op : Word) :
    s.msrWrite true f op = { s with spsr := (s.msrWrite true f op).spsr } := by
  cases h : s.spsr.get? s.cpsr.mode with
  | none => rw [msrWrite_none h]
  | some p => rw [msrWrite_some h]

theorem msrWrite_spsr_get? (s : State) (f : BitVec 4) (op : Word) (m : Mode) :
    (s.msrWrite true f op).spsr.get? m =
      if m = s.cpsr.mode then (s.spsr.get? m).map (·.msr f op) else s.spsr.get? m := by
  cases h : s.spsr.get? s.cpsr.mode with
  | none =>
    rw [msrWrite_none h]
    split
    · subst m; rw [h]; rfl
    · rfl
  | some p =>
    rw [msrWrite_some h, SpsrBank.get?_set]
    split
    · subst m; rw [h]; rfl
    · rfl

/-! ## The statements -/

section Passed

variable {c : Cond} {s : State} (h : condPassed c s.cpsr = true)
include h

theorem exec_mrs_passed (R : Bool) (x1 x2 x3 : BitVec 4) (rd : RegNo) :
    exec (.mrs c R x1 rd x2 x3) s = .next (s.setReg rd (s.mrsValue R)) := runArm_passed h _ _

theorem exec_msr_passed (f : MsrForm) (R : Bool) (mask : BitVec 4) :
    exec (f.instr c R mask) s = .next (s.msrWrite R mask (f.operand s)) := by
  cases f <;> exact runArm_passed h _ _

end Passed

/-- Settles O14: MRS is one register write, of the status word that R selects. -/
theorem mrsReads : Obligations.MrsReads := by
  intro c R x1 x2 x3 rd s hc
  have key (v : Word) (hv : s.mrsValue R = v) : ∃ t, exec (.mrs c R x1 rd x2 x3) s = .next t ∧ Writes s t rd v ∧
      t.cpsr = s.cpsr ∧ RegsBut s t [rd] ∧ CpuOnly s t ∧ t.stepClocks = s.stepClocks :=
    ⟨_, exec_mrs_passed hc R x1 x2 x3 rd, hv ▸ setReg_writes s rd _, setReg_cpsr ..,
      setReg_regsBut s rd _, setReg_cpuOnly .., setReg_stepClocks ..⟩
  cases R with
  | false => exact key _ (mrsValue_cpsr s)
  | true => exact key _ (mrsValue_spsr s)

/-- Settles O15: both forms are one `msrWrite` of their operand, to CPSR by fields or to the SPSR of the mode. -/
theorem msrWrites : Obligations.MsrWrites := by
  intro f c mask s hc
  refine ⟨⟨_, exec_msr_passed hc f false mask, rfl, ?cpsr⟩,
    _, exec_msr_passed hc f true mask, msrWrite_spsr_only s _ _, fun m hm => ?other, ?same⟩
  case cpsr =>
    have hcpsr : (s.msrWrite false mask (f.operand s)).cpsr = s.cpsr.msr mask (f.operand s) := rfl
    rw [hcpsr, Cpsr.msr_eq]
    exact ⟨rfl, rfl, rfl, rfl, rfl, rfl, rfl, rfl⟩
  case other => rw [msrWrite_spsr_get?, if_neg hm]
  case same => rw [msrWrite_spsr_get?, if_pos rfl]; rfl

end Sys2Proof.Machine
end

section
/-! Proofs of the statements about 42_arm_psr_multiply.md, second part: the multiplies (R290 to R296, R424). Since the
flags touch neither the mode nor the instruction set, a multiply is a plain register write, or two, in the state that
has the new flags already. -/

namespace Sys2Proof.Machine

open Sys2Proof.Spec

/-! ## The internal cycles -/

/-- A run of equal bits above the low `lo` ones is a bound on the number (R834). -/
theorem mulRun_eq (ones : Bool) (x : Word) {lo : Nat} (h : lo = 8 ∨ lo = 16 ∨ lo = 24) :
    mulRun ones x lo = (decide (x.toNat < 2 ^ lo) || (ones && decide (2 ^ 32 - 2 ^ lo ≤ x.toNat))) := by
  have hx := x.isLt
  have hzeros : (x >>> lo == 0) = decide (x.toNat < 2 ^ lo) := by
    rw [beq_eq_decide, decide_eq_decide, ← BitVec.toNat_inj, toNat_ushiftRight_div]
    change x.toNat / 2 ^ lo = 0 ↔ _
    rcases h with rfl | rfl | rfl <;> omega
  have hones : (x >>> lo == (0xFFFFFFFF : Word) >>> lo) = decide (2 ^ 32 - 2 ^ lo ≤ x.toNat) := by
    rw [beq_eq_decide, decide_eq_decide, ← BitVec.toNat_inj, toNat_ushiftRight_div, toNat_ushiftRight_div]
    change x.toNat / 2 ^ lo = 0xFFFFFFFF / 2 ^ lo ↔ _
    rcases h with rfl | rfl | rfl <;> omega
  rw [mulRun, hzeros, hones]

theorem mulCycles_eq_earlyCycles (ones : Bool) (x : Word) : mulCycles ones x = earlyCycles ones x := by
  rw [mulCycles, mulRun_eq ones x (.inl rfl), mulRun_eq ones x (.inr (.inl rfl)), mulRun_eq ones x (.inr (.inr rfl))]
  rfl

/-! ## Products -/

theorem ofNat_toNat_mul (a b : Word) : BitVec.ofNat 32 (a.toNat * b.toNat) = a * b := by
  rw [BitVec.ofNat_mul, BitVec.ofNat_toNat, BitVec.ofNat_toNat, BitVec.setWidth_eq, BitVec.setWidth_eq]

theorem ofNat_toNat_mul_add (a b c : Word) : BitVec.ofNat 32 (a.toNat * b.toNat + c.toNat) = a * b + c := by
  rw [BitVec.ofNat_add, ofNat_toNat_mul, BitVec.ofNat_toNat, BitVec.setWidth_eq]

theorem ofInt_toNat_mul (a b : Word) : BitVec.ofInt 64 (a.toNat * b.toNat) = umulFull a b := by
  rw [BitVec.ofInt_mul, BitVec.ofInt_natCast, BitVec.ofInt_natCast, BitVec.ofNat_toNat, BitVec.ofNat_toNat, umulFull]

theorem ofInt_toInt_mul (a b : Word) : BitVec.ofInt 64 (a.toInt * b.toInt) = smulFull a b :=
  BitVec.ofInt_mul ..

theorem ofInt_add_accumulator (k : Int) (s : State) (rdHi rdLo : RegNo) :
    BitVec.ofInt 64 (k + ((s.reg rdHi).toNat * 2 ^ 32 + (s.reg rdLo).toNat)) =
      BitVec.ofInt 64 k + s.accumulator rdHi rdLo := by
  have hacc : (s.accumulator rdHi rdLo).toNat = (s.reg rdHi).toNat * 2 ^ 32 + (s.reg rdLo).toNat := by
    rw [State.accumulator, BitVec.toNat_append, ← Nat.shiftLeft_add_eq_or_of_lt (s.reg rdLo).isLt, Nat.shiftLeft_eq]
  have hint : BitVec.ofInt 64 ((s.reg rdHi).toNat * 2 ^ 32 + (s.reg rdLo).toNat) = s.accumulator rdHi rdLo := by
    rw [← BitVec.setWidth_eq (s.accumulator rdHi rdLo), ← BitVec.ofNat_toNat, hacc, ← BitVec.ofInt_natCast]
    push_cast; rfl
  rw [BitVec.ofInt_add, hint]

theorem setNZ64_eq (p : Cpsr) (x : BitVec 64) :
    p.setNZ64 x = { p with n := x.getLsbD 63, z := decide (x.toNat = 0) } := by
  have hz : (x == 0) = decide (x.toNat = 0) := by
    rw [beq_eq_decide]; exact decide_eq_decide.mpr (BitVec.toNat_inj (y := 0)).symm
  rw [Cpsr.setNZ64, hz, BitVec.msb_eq_getLsbD_last]

/-! ## Register writes and the flags -/

section Flags

variable {s : State} {p : Cpsr} (hp : s.cpsr.FlagsOnly p)
include hp

/-- A register write and a change of flags commute. -/
theorem setReg_flags (r : RegNo) (v : Word) :
    { s.setReg r v with cpsr := p } = ({ s with cpsr := p } : State).setReg r v := by
  unfold State.setReg State.setRegIn State.branch
  dsimp only
  rw [hp.mode, hp.t]
  split <;> rfl

theorem regsBut_of_flags {t : State} {ds : List RegNo} (h : RegsBut { s with cpsr := p } t ds) : RegsBut s t ds := by
  unfold RegsBut at h ⊢
  rwa [hp.mode] at h

end Flags

theorem cpuOnly_internal_of_flags {s t : State} {p : Cpsr} (h : CpuOnly { s with cpsr := p } t) (k : Nat) :
    CpuOnly s (t.internal k) :=
  congrArg (State.internal · k) h

theorem with_cpsr_eq_self {s : State} {p : Cpsr} (h : s.cpsr = p) : { s with cpsr := p } = s := by subst p; rfl

/-! ## MUL, MLA and THUMB MUL -/

/-- CPSR with the flags of a 32-bit product (R291, R292). -/
def mulFlags (S : Bool) (p : Cpsr) (v : Word) : Cpsr := if S then nzOf p v else p

theorem mulFlags_flagsOnly (S : Bool) (p : Cpsr) (v : Word) : p.FlagsOnly (mulFlags S p v) := by cases S <;> rfl

theorem mulWrite_eq (s : State) (S : Bool) (rd : RegNo) (v : Word) :
    s.mulWrite S rd v = ({ s with cpsr := mulFlags S s.cpsr v } : State).setReg rd v := by
  rw [← setReg_flags (mulFlags_flagsOnly S s.cpsr v)]
  unfold State.mulWrite mulFlags
  cases S with
  | false => exact (with_cpsr_eq_self (setReg_cpsr ..)).symm
  | true => simp [setNZ_eq_nzOf]

/-- What every 32-bit multiply does with its result. -/
theorem mulWrite_spec (s : State) (S : Bool) (rd : RegNo) (v : Word) (k : Nat) :
    let t := (s.mulWrite S rd v).internal k
    Writes s t rd v ∧ t.cpsr = (if S then nzOf s.cpsr v else s.cpsr) ∧ RegsBut s t [rd] ∧ CpuOnly s t ∧
      t.stepClocks = s.stepClocks + k := by
  rw [mulWrite_eq]
  exact ⟨setReg_writes _ rd v, setReg_cpsr .., regsBut_of_flags (mulFlags_flagsOnly ..) (setReg_regsBut _ rd v),
    cpuOnly_internal_of_flags (setReg_cpuOnly _ rd v) k, congrArg (· + k) (setReg_stepClocks ..)⟩

/-- The number of a THUMB low register (R166). -/
theorem lowReg_eq_low (r : LowReg) : lowReg r = low r := (BitVec.ofNat_toNat 4 r).symm

section Passed

variable {c : Cond} {s : State} (h : condPassed c s.cpsr = true)
include h

theorem exec_mul_passed (S : Bool) (rd rn rs rm : RegNo) :
    exec (.mul c S rd rn rs rm) s =
      .next ((s.mulWrite S rd (s.reg rm * s.reg rs)).internal (earlyCycles true (s.reg rs))) := by
  rw [← mulCycles_eq_earlyCycles]; exact runArm_passed h _ _

theorem exec_mla_passed (S : Bool) (rd rn rs rm : RegNo) :
    exec (.mla c S rd rn rs rm) s =
      .next ((s.mulWrite S rd (s.reg rm * s.reg rs + s.reg rn)).internal (earlyCycles true (s.reg rs) + 1)) := by
  rw [← mulCycles_eq_earlyCycles]; exact runArm_passed h _ _

/-- The long multiplies differ in the product and the accumulator only. -/
theorem exec_long_passed (o : LongOp) (S : Bool) (rdHi rdLo rs rm : RegNo) :
    exec (o.instr c S rdHi rdLo rs rm) s =
      .next ((s.mullWrite S rdHi rdLo (o.result (s.reg rm) (s.reg rs) (s.reg rdHi) (s.reg rdLo))).internal
        (o.cycles (s.reg rs))) := by
  unfold LongOp.result LongOp.cycles
  simp only [ofInt_add_accumulator, ofInt_toNat_mul, ofInt_toInt_mul, ← mulCycles_eq_earlyCycles]
  cases o <;> exact runArm_passed h _ _

end Passed

theorem exec_tMul (rs rd : LowReg) (s : State) :
    exec (.tMul rs rd) s =
      .next ((s.mulWrite true (low rd) (s.reg (low rd) * s.reg (low rs))).internal
        (earlyCycles true (s.reg (low rd)))) := by
  rw [← mulCycles_eq_earlyCycles, ← lowReg_eq_low, ← lowReg_eq_low]; rfl

/-- Settles O16: the three forms are one `mulWrite` of the word product, which is the exact one modulo 2^32. -/
theorem mulResult : Obligations.MulResult := by
  refine ⟨fun c S rd rn rs rm s hc => ⟨?mul, ?mla⟩, fun rs rd s => ?tMul⟩
  case mul => rw [ofNat_toNat_mul]; exact ⟨_, exec_mul_passed hc S rd rn rs rm, mulWrite_spec s S rd _ _⟩
  case mla => rw [ofNat_toNat_mul_add]; exact ⟨_, exec_mla_passed hc S rd rn rs rm, mulWrite_spec s S rd _ _⟩
  case tMul => rw [ofNat_toNat_mul]; exact ⟨_, exec_tMul rs rd s, mulWrite_spec s true (low rd) _ _⟩

/-! ## The long multiplies -/

section Pair

variable (s : State) (rdHi rdLo : RegNo) (hi lo : Word)

/-- The last write of R15 decides the branch (R290). -/
theorem setReg_setReg_jumps :
    let t := (s.setReg rdLo lo).setReg rdHi hi
    if rdHi = 15#4 then Jumps t hi else if rdLo = 15#4 then Jumps t lo else Stays s t := by
  dsimp only
  split
  · subst rdHi; rw [setReg_pc_is_branch]; exact branch_jumps _ hi
  · next h =>
    have hw := setReg_writes s rdLo lo
    unfold Writes at hw
    unfold Jumps Stays
    rw [setReg_pc_ne hi h, setReg_bubble_ne hi h, setReg_cpsr]
    split
    · next h15 => rwa [if_pos h15] at hw
    · next h15 => rw [if_neg h15] at hw; exact hw.2

theorem setReg_setReg_regsBut : RegsBut s ((s.setReg rdLo lo).setReg rdHi hi) [rdHi, rdLo] := by
  intro p hp
  have hpHi : phys (s.setReg rdLo lo).cpsr.mode rdHi ≠ some p := by
    rw [setReg_cpsr]; exact hp rdHi List.mem_cons_self
  have hpLo : phys s.cpsr.mode rdLo ≠ some p := hp rdLo (List.mem_cons_of_mem _ List.mem_cons_self)
  exact (setReg_regs_other hi hpHi).trans (setReg_regs_other lo hpLo)

theorem setReg_setReg_cpuOnly : CpuOnly s ((s.setReg rdLo lo).setReg rdHi hi) := by
  unfold CpuOnly; rw [setReg_only _ rdHi, setReg_only s rdLo]

end Pair

/-- CPSR with the flags of a 64-bit product (R293). -/
def mullFlags (S : Bool) (p : Cpsr) (x : BitVec 64) : Cpsr :=
  if S then { p with n := x.getLsbD 63, z := decide (x.toNat = 0) } else p

theorem mullFlags_flagsOnly (S : Bool) (p : Cpsr) (x : BitVec 64) : p.FlagsOnly (mullFlags S p x) := by
  cases S <;> rfl

/-- The two halves are the remainder and the quotient by 2^32. -/
theorem mullWrite_eq (s : State) (S : Bool) (rdHi rdLo : RegNo) (x : BitVec 64) :
    s.mullWrite S rdHi rdLo x =
      (({ s with cpsr := mullFlags S s.cpsr x } : State).setReg rdLo (BitVec.ofNat 32 x.toNat)).setReg rdHi
        (BitVec.ofNat 32 (x.toNat / 2 ^ 32)) := by
  have hlo : x.setWidth 32 = BitVec.ofNat 32 x.toNat := (BitVec.ofNat_toNat 32 x).symm
  have hhi : x.extractLsb' 32 32 = BitVec.ofNat 32 (x.toNat / 2 ^ 32) := by
    rw [BitVec.extractLsb', Nat.shiftRight_eq_div_pow]
  have hp : s.cpsr.FlagsOnly (mullFlags S s.cpsr x) := mullFlags_flagsOnly ..
  rw [← setReg_flags hp, ← setReg_flags (by rwa [setReg_cpsr]), ← hlo, ← hhi]
  unfold State.mullWrite mullFlags
  cases S with
  | false => exact (with_cpsr_eq_self ((setReg_cpsr ..).trans (setReg_cpsr ..))).symm
  | true => simp [setNZ64_eq]

/-- Settles O17: the four forms are one `mullWrite` of the exact result. -/
theorem mullResult : Obligations.MullResult := by
  intro o c S rdHi rdLo rs rm s hc
  refine ⟨_, exec_long_passed hc o S rdHi rdLo rs rm, ?_⟩
  rw [mullWrite_eq]
  exact ⟨fun h => reg_setReg_same _ h, fun h hne => (reg_setReg_other _ hne h).trans (reg_setReg_same _ h),
    setReg_setReg_jumps .., (setReg_cpsr ..).trans (setReg_cpsr ..),
    regsBut_of_flags (mullFlags_flagsOnly ..) (setReg_setReg_regsBut _ rdHi rdLo _ _),
    cpuOnly_internal_of_flags (setReg_setReg_cpuOnly ..) _,
    congrArg (· + o.cycles (s.reg rs)) ((setReg_stepClocks ..).trans (setReg_stepClocks ..))⟩

end Sys2Proof.Machine
end

section
/-! Rules for the statements about 43_arm_load_store.md: the frame relations of the statements chain, and they look only at
the registers, the status word and the program counter, so that an access or an internal cycle does not disturb them. -/

namespace Sys2Proof.Spec

open Sys2Proof.Machine

section Relations

variable {s s' t t' u : State}

/-! ## Chains -/

theorem LoadOnly.trans (h : LoadOnly s t) (k : LoadOnly t u) : LoadOnly s u := by
  unfold LoadOnly at *; exact k.trans (by rw [h])

theorem StoreOnly.trans (h : StoreOnly s t) (k : StoreOnly t u) : StoreOnly s u := by
  unfold StoreOnly at *; exact k.trans (by rw [h])

theorem setReg_loadOnly (s : State) (r : RegNo) (v : Word) : LoadOnly s (s.setReg r v) := by
  unfold LoadOnly; rw [setReg_only]

theorem setReg_storeOnly (s : State) (r : RegNo) (v : Word) : StoreOnly s (s.setReg r v) := by
  unfold StoreOnly; rw [setReg_only]

theorem loadAccess_loadOnly (s : State) (k : LoadKind) (a : Word) : LoadOnly s (s.loadAccess k a) := by
  unfold LoadOnly; rw [loadAccess_only]

theorem loadAccess_storeOnly (s : State) (k : LoadKind) (a : Word) : StoreOnly s (s.loadAccess k a) := by
  unfold StoreOnly; rw [loadAccess_only]

theorem store_storeOnly (s : State) (k : StoreKind) (a v : Word) : StoreOnly s (s.store k a v) := by
  unfold StoreOnly; rw [store_only]

theorem internal_loadOnly (s : State) (k : Nat) : LoadOnly s (s.internal k) := rfl

theorem internal_storeOnly (s : State) (k : Nat) : StoreOnly s (s.internal k) := rfl

/-! ## What the relations look at -/

theorem RegsBut.congr {ds : List RegNo} (h : RegsBut s t ds) (hc : s'.cpsr = s.cpsr) (hr : s'.regs = s.regs)
    (ht : t'.regs = t.regs := by rfl) : RegsBut s' t' ds := by
  unfold RegsBut at *; rwa [hc, hr, ht]

theorem RegsBut.refl (s : State) : RegsBut s s [] := fun _ _ => rfl

theorem Stays.congr (h : Stays s t) (hp : s'.pc = s.pc) (hb : s'.bubble = s.bubble) (hp' : t'.pc = t.pc := by rfl)
    (hb' : t'.bubble = t.bubble := by rfl) : Stays s' t' := by
  unfold Stays at *; rwa [hp, hb, hp', hb']

theorem stays_congr (hp : s'.pc = s.pc) (hb : s'.bubble = s.bubble) : Stays s' = Stays s := by
  funext t; unfold Stays; rw [hp, hb]

theorem Jumps.congr {a : Word} (h : Jumps t a) (hc : t'.cpsr = t.cpsr := by rfl) (hp : t'.pc = t.pc := by rfl)
    (hb : t'.bubble = t.bubble := by rfl) : Jumps t' a := by
  unfold Jumps at *; rwa [hc, hp, hb]

theorem reg_congr {r : RegNo} (h : r ≠ 15#4) (hc : t.cpsr = s.cpsr) (hr : t.regs = s.regs) : t.reg r = s.reg r := by
  unfold State.reg; rw [hc, regIn_congr h hr]

/-- A write of one register after other work that kept the registers, the mode and the program counter. -/
theorem Writes.congr {r : RegNo} {v : Word} (h : Writes s t r v) (hp : s'.pc = s.pc) (hb : s'.bubble = s.bubble)
    (hc' : t'.cpsr = t.cpsr := by rfl) (hr' : t'.regs = t.regs := by rfl) (hp' : t'.pc = t.pc := by rfl)
    (hb' : t'.bubble = t.bubble := by rfl) : Writes s' t' r v := by
  unfold Writes at *
  by_cases h15 : r = 15#4
  · rw [if_pos h15] at h ⊢
    exact Jumps.congr h hc' hp' hb'
  · rw [if_neg h15] at h ⊢
    exact ⟨(reg_congr h15 hc' hr').trans h.1, h.2.congr hp hb hp' hb'⟩

theorem Writes.branches {r : RegNo} {v : Word} (h : Writes s t r v) : if r = 15#4 then Jumps t v else Stays s t := by
  unfold Writes at h
  split at h
  · next h15 => rwa [if_pos h15]
  · next h15 => rw [if_neg h15]; exact h.2

theorem BaseEffect.branches {w : Bool} {rn : RegNo} {v : Word} (h : BaseEffect s t w rn v) :
    if w = true ∧ rn = 15#4 then Jumps t v else Stays s t := by
  obtain ⟨-, h⟩ := h
  cases w with
  | false => simpa using h
  | true => simpa using h.branches

theorem restored_congr (hc : s'.cpsr = s.cpsr) (hs : s'.spsr = s.spsr) : Restored s' = Restored s := by
  funext t; unfold Restored; rw [hc, hs]

end Relations

end Sys2Proof.Spec
end

section
/-! Proofs of the statements about 43_arm_load_store.md, first part: the loads (R320 to R334). A loaded value is known by
its bytes, which a rotation permutes; every form is one `State.load` of its kind and its indexing. -/

namespace Sys2Proof.Machine

open Sys2Proof.Spec

/-! ## Loaded values -/

/-- A rotation by whole bytes permutes the bytes. -/
theorem byteOf_rotateRight (x : Word) {r j : Nat} (hj : j < 4) :
    byteOf (x.rotateRight (8 * r)) j = byteOf x ((j + r) % 4) := by
  ext i hi
  have hbit : 8 * j + i < 32 := by omega
  have hmod : (8 * j + i + 8 * r) % 32 = 8 * ((j + r) % 4) + i := by omega
  simp only [byteOf_eq_extractLsb', BitVec.getElem_extractLsb']
  rw [getLsbD_rotateRight_mod x (8 * r) hbit, hmod]

theorem byteOf_bytes (f : Nat → Byte) {j : Nat} (hj : j < 4) : byteOf (f 3 ++ f 2 ++ f 1 ++ f 0) j = f j := by
  rw [byteOf_eq_extractLsb']
  obtain rfl | rfl | rfl | rfl : j = 0 ∨ j = 1 ∨ j = 2 ∨ j = 3 := by omega
  · exact BitVec.extractLsb'_append_eq_right
  · rw [BitVec.extractLsb'_append_eq_of_le (by decide)]
    exact BitVec.extractLsb'_append_eq_right
  · rw [BitVec.extractLsb'_append_eq_of_le (by decide), BitVec.extractLsb'_append_eq_of_le (by decide)]
    exact BitVec.extractLsb'_append_eq_right
  · rw [BitVec.extractLsb'_append_eq_of_le (by decide), BitVec.extractLsb'_append_eq_of_le (by decide),
      BitVec.extractLsb'_append_eq_of_le (by decide)]
    exact BitVec.extractLsb'_eq_self

theorem rotateRight_bytes (f : Nat → Byte) (r : Nat) :
    (f 3 ++ f 2 ++ f 1 ++ f 0 : Word).rotateRight (8 * r) =
      f ((3 + r) % 4) ++ f ((2 + r) % 4) ++ f ((1 + r) % 4) ++ f ((0 + r) % 4) := by
  have hbyte {j : Nat} (hj : j < 4) :
      byteOf ((f 3 ++ f 2 ++ f 1 ++ f 0 : Word).rotateRight (8 * r)) j = f ((j + r) % 4) := by
    rw [byteOf_rotateRight _ hj, byteOf_bytes f (Nat.mod_lt _ (by decide))]
  rw [← hbyte (by decide : 3 < 4), ← hbyte (by decide : 2 < 4), ← hbyte (by decide : 1 < 4),
    ← hbyte (by decide : 0 < 4)]
  exact (byteOf_append_all _).symm

theorem rotateRight_zero (x : Word) : x.rotateRight 0 = x := by simp [BitVec.rotateRight_def]

/-- A halfword turned by one byte: its low byte comes highest (R109). -/
theorem rotateRight_half (h l : Byte) :
    (BitVec.setWidth 32 (h ++ l : Half)).rotateRight 8 = (l ++ (0#16 ++ h) : Word) := by
  have hsplit : (BitVec.setWidth 32 (h ++ l : Half)) = (0#8 ++ 0#8 ++ h ++ l : Word) :=
    (BitVec.setWidth_eq_append (by decide)).trans BitVec.append_assoc.symm
  have hturned : (l ++ (0#16 ++ h) : Word) = (l ++ 0#8 ++ 0#8 ++ h : Word) :=
    BitVec.append_assoc.symm.trans
      (congrArg (· ++ h) (BitVec.append_assoc (x₁ := l) (x₂ := 0#8) (x₃ := 0#8)).symm)
  rw [hsplit, hturned]
  exact rotateRight_bytes (fun j => if j = 0 then l else if j = 1 then h else 0#8) 1

theorem getLsbD_zero_eq_odd (a : Word) : a.getLsbD 0 = decide (a.toNat % 2 = 1) := Nat.testBit_zero ..

/-- The model selects the signed halfword by bit 0 of the address, the statements by its parity. -/
theorem if_bit0 {α : Sort*} (a : Word) (x y : α) :
    (if a.getLsbD 0 then x else y) = if a.toNat % 2 = 0 then y else x := by
  rw [getLsbD_zero_eq_odd]
  rcases Nat.mod_two_eq_zero_or_one a.toNat with h | h <;> simp [h]

/-- What a load returns is what R108 and R109 say byte by byte. -/
theorem loadValue_eq_loaded (s : State) (k : LoadKind) (a : Word) : s.loadValue k a = loaded s k a := by
  unfold State.loadValue loaded
  cases k with
  | word =>
    dsimp only
    have key := rotateRight_bytes (fun j => s.byteAt (a.toNat / 4 * 4 + j)) (a.toNat % 4)
    simp only [Nat.add_mod_mod, Nat.zero_add, Nat.mod_mod] at key
    rw [Nat.add_comm a.toNat 3, Nat.add_comm a.toNat 2, Nat.add_comm a.toNat 1, ← key, State.read32, alignWord_toNat]
    rfl
  | half =>
    dsimp only
    rw [State.read16, alignHalf_toNat]
    split
    · next h =>
      rw [h, show a.toNat / 2 * 2 = a.toNat by omega]
      exact (rotateRight_zero _).trans (BitVec.setWidth_eq_append (by decide))
    · next h =>
      rw [show a.toNat % 2 = 1 by omega, show a.toNat / 2 * 2 + 1 = a.toNat by omega,
        show a.toNat / 2 * 2 = a.toNat - 1 by omega]
      exact rotateRight_half ..
  | byte => exact BitVec.setWidth_eq_append (by decide)
  | signedHalf =>
    dsimp only
    rw [if_bit0, apply_ite (BitVec.ofInt 32)]
    rfl
  | signedByte => rfl

/-! ## The access of a load -/

theorem alignWord_eq_ofNat (a : Word) : alignWord a = BitVec.ofNat 32 (a.toNat / 4 * 4) := by
  rw [← alignWord_toNat, BitVec.ofNat_toNat, BitVec.setWidth_eq]

theorem alignHalf_eq_ofNat (a : Word) : alignHalf a = BitVec.ofNat 32 (a.toNat / 2 * 2) := by
  rw [← alignHalf_toNat, BitVec.ofNat_toNat, BitVec.setWidth_eq]

theorem access_stepClocks (s : State) (g : Agent) (a : Word) (w : Width) (k : AccessKind) :
    (s.access g a w k).stepClocks = s.stepClocks + cost s g a w k := by
  unfold cost; rw [← sequential_eq]; rfl

/-- A load makes one read access, at the address and of the width of R108 and R109. -/
theorem loadAccess_eq_access (s : State) (k : LoadKind) (a : Word) :
    s.loadAccess k a = s.access .cpu (loadAccessOf k a).1 (loadAccessOf k a).2 .read := by
  unfold State.loadAccess loadAccessOf
  cases k with
  | word => rw [alignWord_eq_ofNat]
  | half => rw [alignHalf_eq_ofNat]
  | signedHalf => dsimp only; rw [if_bit0]; split <;> rfl
  | _ => rfl

/-! ## The register writes of a load -/

/-- The operands of `State.load` read from an indexing. -/
def State.loadBy (s : State) (k : LoadKind) (x : Indexing) (rn rd : RegNo) : State :=
  s.load k x.pre x.up x.wback rn rd x.offset

section LoadBy

variable (s : State) (k : LoadKind) (x : Indexing) (rn rd : RegNo)

/-- The access, the writeback and Rd, with the operands as the statements name them. -/
theorem loadBy_eq :
    s.loadBy k x rn rd =
      (((s.loadAccess k (x.addr (s.reg rn))).writeback s x.wback x.up rn x.offset).setReg rd
        (loaded s k (x.addr (s.reg rn)))).internal 1 := by
  rw [← loadValue_eq_loaded]; rfl

theorem loadBy_effect : LoadEffect s (s.loadBy k x rn rd) x rn rd (loaded s k (x.addr (s.reg rn))) := by
  rw [loadBy_eq]
  generalize loaded s k (x.addr (s.reg rn)) = v
  generalize hs : s.loadAccess k (x.addr (s.reg rn)) = s1
  have hc : s1.cpsr = s.cpsr := by rw [← hs, loadAccess_cpsr]
  have hr : s1.regs = s.regs := by rw [← hs, loadAccess_regs]
  have hp : s1.pc = s.pc := by rw [← hs, loadAccess_pc]
  have hb : s1.bubble = s.bubble := by rw [← hs, loadAccess_bubble]
  have honly : LoadOnly s s1 := hs ▸ loadAccess_loadOnly s k _
  unfold LoadEffect State.writeback Indexing.offAddr addOffset
  cases x.wback with
  | false =>
    simp only [Bool.false_eq_true, if_false, false_and]
    refine ⟨(honly.trans (setReg_loadOnly ..)).trans (internal_loadOnly ..), (setReg_cpsr ..).trans hc,
      (setReg_regsBut s1 rd v).congr hc.symm hr.symm, fun h => reg_setReg_same v h, nofun, ?_⟩
    exact ((setReg_writes s1 rd v).congr hp.symm hb.symm).branches
  | true =>
    simp only [if_true, true_and]
    generalize (if x.up then s.reg rn + x.offset else s.reg rn - x.offset) = b
    refine ⟨((honly.trans (setReg_loadOnly ..)).trans (setReg_loadOnly ..)).trans (internal_loadOnly ..),
      ((setReg_cpsr ..).trans (setReg_cpsr ..)).trans hc, (setReg_setReg_regsBut s1 rd rn v b).congr hc.symm hr.symm,
      fun h => reg_setReg_same v h, fun _ h hne => (reg_setReg_other v hne h).trans (reg_setReg_same b h), ?_⟩
    rw [← stays_congr hp hb]
    exact setReg_setReg_jumps s1 rd rn v b

theorem loadBy_cost : LoadCost s (s.loadBy k x rn rd) k (x.addr (s.reg rn)) := by
  rw [loadBy_eq, loadAccess_eq_access]
  unfold LoadCost State.writeback
  rw [← access_stepClocks]
  split
  · exact ⟨congrArg (· + 1) ((setReg_stepClocks ..).trans (setReg_stepClocks ..)),
      (setReg_busLast ..).trans (setReg_busLast ..)⟩
  · exact ⟨congrArg (· + 1) (setReg_stepClocks ..), setReg_busLast ..⟩

end LoadBy

/-! ## The forms -/

theorem ofNat_append_nibbles (hi lo : BitVec 4) :
    BitVec.ofNat 32 (16 * hi.toNat + lo.toNat) = (hi ++ lo).setWidth 32 := by
  rw [← BitVec.ofNat_toNat, BitVec.toNat_append, ← Nat.shiftLeft_add_eq_or_of_lt lo.isLt, Nat.shiftLeft_eq,
    Nat.mul_comm]

theorem halfIndexing_eq (p u w : Bool) (off : HalfOff) (s : State) :
    halfIndexing p u w off s = ⟨p, u, !p || w, s.offHalf off⟩ := by
  cases off with
  | imm hi lo => rw [halfIndexing, ofNat_append_nibbles]; rfl
  | reg x rm => rfl

theorem offImm_eq_ofNat (off : BitVec 12) : offImm off = BitVec.ofNat 32 off.toNat := (BitVec.ofNat_toNat ..).symm

/-- Every load form is `State.load` of its kind and its indexing. -/
theorem exec_load_passed {c : Cond} {s : State} (h : condPassed c s.cpsr = true) (f : LoadForm) (rn rd : RegNo) :
    exec (f.instr c rn rd) s = .next (s.loadBy f.kind (f.indexing s) rn rd) := by
  cases f with
  | word m | byte m =>
    unfold LoadForm.indexing Address.indexing
    cases m <;> simp only [← offImm_eq_ofNat] <;> exact runLoad_passed h ..
  | _ => rw [LoadForm.indexing, halfIndexing_eq]; exact runLoad_passed h ..

/-- Settles O24: every form is one `loadBy`. -/
theorem armLoads : Obligations.ArmLoads := fun f _ rn rd s hc =>
  ⟨_, exec_load_passed hc f rn rd, loadBy_effect s f.kind (f.indexing s) rn rd,
    loadBy_cost s f.kind (f.indexing s) rn rd⟩

end Sys2Proof.Machine
end

section
/-! Proofs of the statements about 43_arm_load_store.md, second part: what stores do to the devices and to memory (R106,
R701, R702). What a write to the block does depends on the devices alone, and stores that do not overlap each keep their
bytes. -/

namespace Sys2Proof.Machine

/-! ## Writes that cover no byte of the block -/

theorem isIo_of_covers {r : IoReg} {a : Nat} (h : r.covers a = true) (hr : r ∈ IoReg.all) : isIo a = true := by
  by_contra hio
  have hnone := (ioAt_eq_none_iff a).mpr (Bool.eq_false_iff.mpr hio)
  exact List.find?_eq_none.mp hnone r hr h

theorem lanes_eq_zero {a k : Nat} (h : touchesIo a k = false) {r : IoReg} (hr : r ∈ IoReg.all) : r.lanes a k = 0 := by
  have hlane (j : Nat) : ¬(j < r.bytes ∧ a ≤ r.base + j ∧ r.base + j < a + k) := by
    rintro ⟨hj, hlo, hhi⟩
    have hcov : r.covers (r.base + j) = true := by
      unfold IoReg.covers
      rw [Bool.and_eq_true, decide_eq_true_iff, decide_eq_true_iff]
      omega
    have hmem := (touchesIo_eq_false_iff a k).mp h (r.base + j - a) (by omega)
    rw [Nat.add_sub_cancel' hlo, isIo_of_covers hcov hr] at hmem
    exact Bool.noConfusion hmem
  unfold IoReg.lanes
  simp only [if_neg (hlane _)]
  rfl

theorem ioWrite_of_mem (s : State) {a k : Nat} (v : Word) (h : touchesIo a k = false) : s.ioWrite a k v = s := by
  have hl : ∀ r ∈ IoReg.all, r.lanes a k = 0 := fun r => lanes_eq_zero h
  unfold State.ioWrite
  generalize IoReg.all = l at hl
  induction l with
  | nil => rfl
  | cons r l ih =>
    have hr : r.writeLanes a k v s = s := if_pos (hl r List.mem_cons_self)
    rw [List.foldl_cons, hr]
    exact ih fun q hq => hl q (List.mem_cons_of_mem r hq)

end Sys2Proof.Machine

namespace Sys2Proof.Spec

open Sys2Proof.Machine

section Devices

variable {s s' t t' u : State}

/-! ## The devices -/

theorem SameDevices.refl (s : State) : SameDevices s s := ⟨rfl, rfl, rfl, rfl, rfl, rfl⟩

theorem SameDevices.symm (h : SameDevices t u) : SameDevices u t := by
  obtain ⟨h1, h2, h3, h4, h5, h6⟩ := h
  exact ⟨h1.symm, h2.symm, h3.symm, h4.symm, h5.symm, h6.symm⟩

theorem SameDevices.trans (h : SameDevices s t) (k : SameDevices t u) : SameDevices s u := by
  obtain ⟨h1, h2, h3, h4, h5, h6⟩ := h
  obtain ⟨k1, k2, k3, k4, k5, k6⟩ := k
  exact ⟨h1.trans k1, h2.trans k2, h3.trans k3, h4.trans k4, h5.trans k5, h6.trans k6⟩

theorem SameDevices.setDma (h : SameDevices t u) (n : Fin 4) (c : DmaChannel) :
    SameDevices (t.setDma n c) (u.setDma n c) := by
  obtain ⟨hirq, hdma, harm, htim, hhalt, hstop⟩ := h
  exact ⟨hirq, congrArg (Quad.set · n c) hdma, harm, htim, hhalt, hstop⟩

theorem SameDevices.arbitrate (h : SameDevices t u) : SameDevices t.arbitrate u.arbitrate := by
  obtain ⟨hirq, hdma, -, htim, hhalt, hstop⟩ := h
  exact ⟨hirq, hdma, congrArg dmaWinner hdma, htim, hhalt, hstop⟩

theorem SameDevices.setTimer (h : SameDevices t u) (n : Fin 4) (x : Timer) :
    SameDevices (t.setTimer n x) (u.setTimer n x) := by
  obtain ⟨hirq, hdma, harm, htim, hhalt, hstop⟩ := h
  exact ⟨hirq, hdma, harm, congrArg (Quad.set · n x) htim, hhalt, hstop⟩

theorem SameDevices.setIrq (h : SameDevices t u) (q : IrqCtl) :
    SameDevices { t with irq := q } { u with irq := q } := by
  obtain ⟨-, hdma, harm, htim, hhalt, hstop⟩ := h
  exact ⟨rfl, hdma, harm, htim, hhalt, hstop⟩

theorem SameDevices.requestTrigger (h : SameDevices t u) (n : Fin 4) (x : BitVec 2) :
    SameDevices (t.requestTrigger n x) (u.requestTrigger n x) := by
  have ⟨_, hdma, _, _, _, _⟩ := h
  unfold State.requestTrigger
  rw [hdma]
  exact (h.setDma n _).arbitrate

theorem SameDevices.writeDmaCtl (h : SameDevices t u) (n : Fin 4) (new : Half) :
    SameDevices (t.writeDmaCtl n new) (u.writeDmaCtl n new) := by
  have ⟨_, hdma, _, _, _, _⟩ := h
  unfold State.writeDmaCtl
  rw [hdma]
  dsimp only
  split
  · exact (h.setDma n _).requestTrigger n _
  · exact (h.setDma n _).arbitrate

theorem SameDevices.haltOp (h : SameDevices t u) : SameDevices t.haltOp u.haltOp := by
  have hwake : t.haltWake = u.haltWake := congrArg (haltWakeUnder Config.haltWakeNeedsIme) h.1
  unfold State.haltOp
  rw [hwake]
  split
  · exact h
  · obtain ⟨hirq, hdma, harm, htim, -, hstop⟩ := h
    exact ⟨hirq, hdma, harm, htim, rfl, hstop⟩

theorem SameDevices.stopOp (h : SameDevices t u) : SameDevices t.stopOp u.stopOp := by
  obtain ⟨hirq, hdma, harm, htim, hhalt, -⟩ := h
  exact ⟨hirq, hdma, harm, htim, hhalt, rfl⟩

/-- The write action of a register depends on the devices alone. -/
theorem SameDevices.regWrite (h : SameDevices t u) (r : IoReg) (new ones : Word) :
    SameDevices (r.write t new ones) (r.write u new ones) := by
  have ⟨hirq, hdma, _, htim, _, _⟩ := h
  cases r with
  | dmaSad n => unfold IoReg.write; rw [hdma]; exact h.setDma n _
  | dmaDad n => unfold IoReg.write; rw [hdma]; exact h.setDma n _
  | dmaCntL n => unfold IoReg.write; rw [hdma]; exact h.setDma n _
  | dmaCntH n => exact h.writeDmaCtl n _
  | tmCntL n => unfold IoReg.write; rw [htim]; exact h.setTimer n _
  | tmCntH n => unfold IoReg.write; rw [htim]; exact h.setTimer n _
  | ie => unfold IoReg.write State.writeEnable; rw [hirq]; exact h.setIrq _
  | ifl => unfold IoReg.write State.acknowledge; rw [hirq]; exact h.setIrq _
  | ime => unfold IoReg.write State.writeMasterEnable; rw [hirq]; exact h.setIrq _
  | imeHi => exact h
  | haltcnt =>
    unfold IoReg.write
    dsimp only
    split
    · exact h.stopOp
    · exact h.haltOp

theorem SameDevices.stored_eq (h : SameDevices t u) (r : IoReg) : r.stored t = r.stored u := by
  obtain ⟨hirq, hdma, -, htim, -, -⟩ := h
  unfold IoReg.stored
  rw [hirq, hdma, htim]

theorem SameDevices.writeLanes (h : SameDevices t u) (r : IoReg) (a k : Nat) (v : Word) :
    SameDevices (r.writeLanes a k v t) (r.writeLanes a k v u) := by
  unfold IoReg.writeLanes
  rw [h.stored_eq]
  dsimp only
  split
  · exact h
  · exact h.regWrite r _ _

theorem SameDevices.ioWrite (h : SameDevices t u) (a k : Nat) (v : Word) :
    SameDevices (t.ioWrite a k v) (u.ioWrite a k v) := by
  unfold State.ioWrite
  generalize IoReg.all = l
  induction l generalizing t u with
  | nil => exact h
  | cons r l ih => exact ih (h.writeLanes r a k v)

theorem SameDevices.setReg (s : State) (r : RegNo) (v : Word) : SameDevices (s.setReg r v) s := by
  rw [setReg_only]; exact .refl s

theorem SameDevices.loadAccess (s : State) (k : LoadKind) (a : Word) : SameDevices (s.loadAccess k a) s := by
  rw [loadAccess_only]; exact .refl s

/-! ## Stores in order -/

/-- What the block's registers see of stores in order. -/
def ioWrites (s : State) (ws : List Put) : State := ws.foldl (fun u w => u.ioWrite w.addr w.bytes w.value) s

/-- Two stores that share no byte. -/
def Put.Apart (v w : Put) : Prop := v.addr + v.bytes ≤ w.addr ∨ w.addr + w.bytes ≤ v.addr

theorem SameDevices.ioWrites (h : SameDevices t u) (ws : List Put) : SameDevices (ioWrites t ws) (ioWrites u ws) := by
  induction ws generalizing t u with
  | nil => exact h
  | cons w ws ih => exact ih (h.ioWrite _ _ _)

theorem ioWrites_of_mem (s : State) {ws : List Put} (h : ∀ w ∈ ws, ∀ j < w.bytes, isIo (w.addr + j) = false) :
    ioWrites s ws = s := by
  induction ws with
  | nil => rfl
  | cons w ws ih =>
    have hw : s.ioWrite w.addr w.bytes w.value = s :=
      ioWrite_of_mem s _ ((touchesIo_eq_false_iff ..).mpr (h w List.mem_cons_self))
    unfold ioWrites at *
    rw [List.foldl_cons, hw]
    exact ih fun v hv => h v (List.mem_cons_of_mem w hv)

/-- The last clause of `Stored` follows from the one before it. -/
theorem Stored.intro {ws : List Put} (hb : StoredBytes s t ws) (hd : SameDevices t (ioWrites s ws)) :
    Stored s t ws :=
  ⟨hb, hd, fun h => by rwa [ioWrites_of_mem s h] at hd⟩

/-- `Stored` looks at the memory and the devices only. -/
theorem Stored.congr {ws : List Put} (h : Stored s t ws) (hd : SameDevices s' s) (hm : s'.mem = s.mem)
    (hd' : SameDevices t' t) (hm' : t'.mem = t.mem) : Stored s' t' ws := by
  obtain ⟨hbytes, hdev, -⟩ := h
  refine .intro ?_ (hd'.trans (hdev.trans (hd.symm.ioWrites ws)))
  unfold StoredBytes at *
  rwa [hm, hm']

theorem Stored.nil (s : State) : Stored s s [] := .intro ⟨nofun, fun _ _ => rfl⟩ (.refl s)

/-- A store and then others that do not overlap it. -/
theorem Stored.cons {w : Put} {ws : List Put} (h : Stored s t [w]) (k : Stored t u ws) (hw : ∀ v ∈ ws, w.Apart v) :
    Stored s u (w :: ws) := by
  obtain ⟨⟨hsame, hother⟩, hdev, -⟩ := h
  obtain ⟨⟨ksame, kother⟩, kdev, -⟩ := k
  refine .intro ⟨fun x hx j hj hio => ?_, fun a ha => ?_⟩ (kdev.trans (hdev.ioWrites ws))
  · rcases List.mem_cons.mp hx with rfl | hx
    · rw [kother _ (.inr fun v hv => ?_)]
      · exact hsame x List.mem_cons_self j hj hio
      · have := hw v hv
        unfold Put.Apart at this
        omega
    · exact ksame x hx j hj hio
  · rw [kother a (ha.imp_right fun ha v hv => ha v (List.mem_cons_of_mem w hv))]
    exact hother a (ha.imp_right fun ha v hv => by
      obtain rfl := List.mem_singleton.mp hv
      exact ha v List.mem_cons_self)

end Devices

end Sys2Proof.Spec
end

section
/-! Proofs of the statements about 43_arm_load_store.md, third part: the single stores (R323 to R332) and the swaps (R350,
R351). Every store form is one `State.storeAt` of its kind and its indexing. -/

namespace Sys2Proof.Machine

open Sys2Proof.Spec

/-! ## One store -/

theorem writeBytes_sameDevices (s : State) (a k : Nat) (v : Word) :
    SameDevices (s.writeBytes a k v) (s.ioWrite a k v) := by
  unfold State.writeBytes
  split
  · exact .refl _
  · next h => rw [ioWrite_of_mem s v (Bool.eq_false_iff.mpr h)]; exact .refl _

theorem putOf_eq (k : StoreKind) (a v : Word) : putOf k a v = ⟨(storeAddr k a).toNat, (storeWidth k).bytes, v⟩ := by
  cases k with
  | word => unfold putOf storeAddr; rw [alignWord_toNat]; rfl
  | half => unfold putOf storeAddr; rw [alignHalf_toNat]; rfl
  | byte => rfl

theorem byteOf_eq_ofNat (v : Word) (j : Nat) : byteOf v j = BitVec.ofNat 8 (v.toNat / 2 ^ (8 * j)) := by
  rw [← toNat_ushiftRight_div, BitVec.ofNat_toNat]; rfl

theorem store_sameDevices (s : State) (k : StoreKind) (a v : Word) :
    SameDevices (s.store k a v) (s.ioWrite (putOf k a v).addr (putOf k a v).bytes v) := by
  rw [putOf_eq]
  have haccess : SameDevices (s.access .cpu (storeAddr k a) (storeWidth k) .write) s := .refl s
  exact (writeBytes_sameDevices _ _ _ v).trans (haccess.ioWrite _ _ v)

theorem store_storedBytes {s : State} (h : Memory.wf s.mem = true) (k : StoreKind) (a v : Word) :
    StoredBytes s (s.store k a v) [putOf k a v] := by
  rw [putOf_eq]
  refine ⟨fun w hw j hj hio => ?_,
    fun b hb => store_read_other s k a v (hb.imp_right fun hb => hb _ List.mem_cons_self)⟩
  obtain rfl := List.mem_singleton.mp hw
  rw [← byteOf_eq_ofNat]
  exact store_read_same k a v h hj hio

theorem store_stepClocks (s : State) (k : StoreKind) (a v : Word) :
    (s.store k a v).stepClocks = s.stepClocks + cost s .cpu (storeAddr k a) (storeWidth k) .write := by
  unfold State.store State.memWrite
  rw [writeBytes_stepClocks, access_stepClocks]

theorem store_stored {s : State} (h : Memory.wf s.mem = true) (k : StoreKind) (a v : Word) :
    Stored s (s.store k a v) [putOf k a v] := by
  refine .intro (store_storedBytes h k a v) ?_
  have hv : (putOf k a v).value = v := by rw [putOf_eq]
  unfold ioWrites
  rw [List.foldl_cons, List.foldl_nil, hv]
  exact store_sameDevices s k a v

/-! ## STR and its forms -/

/-- The operands of `State.storeAt` read from an indexing. -/
def State.storeBy (s : State) (k : StoreKind) (x : Indexing) (rn rd : RegNo) : State :=
  s.storeAt k x.pre x.up x.wback rn rd x.offset

/-- Every store form is `State.storeAt` of its kind and its indexing. -/
theorem exec_store_passed {c : Cond} {s : State} (h : condPassed c s.cpsr = true) (f : StoreForm) (rn rd : RegNo) :
    exec (f.instr c rn rd) s = .next (s.storeBy f.kind (f.indexing s) rn rd) := by
  cases f with
  | word m | byte m =>
    unfold StoreForm.indexing Address.indexing
    cases m <;> simp only [← offImm_eq_ofNat] <;> exact runStore_passed h ..
  | half => rw [StoreForm.indexing, halfIndexing_eq]; exact runStore_passed h ..

/-- A writeback after stores: the base alone changes. -/
theorem setReg_baseEffect {s s1 : State} (hc : s1.cpsr = s.cpsr) (hr : s1.regs = s.regs) (hp : s1.pc = s.pc)
    (hb : s1.bubble = s.bubble) (w : Bool) (rn : RegNo) (v : Word) :
    BaseEffect s (if w then s1.setReg rn v else s1) w rn v := by
  unfold BaseEffect
  cases w with
  | false =>
    simp only [Bool.false_eq_true, if_false]
    exact ⟨(RegsBut.refl s1).congr hc.symm hr.symm, ⟨hp, hb⟩⟩
  | true =>
    simp only [if_true]
    exact ⟨(setReg_regsBut s1 rn v).congr hc.symm hr.symm, (setReg_writes s1 rn v).congr hp.symm hb.symm⟩

theorem storeCost_iff {s t : State} (k : StoreKind) (a : Word) :
    StoreCost s t k a ↔ t.stepClocks = s.stepClocks + cost s .cpu (storeAddr k a) (storeWidth k) .write := by
  unfold StoreCost storeAddr
  cases k with
  | word => rw [alignWord_eq_ofNat]; rfl
  | half => rw [alignHalf_eq_ofNat]; rfl
  | byte => rfl

section StoreBy

variable (s : State) (k : StoreKind) (x : Indexing) (rn rd : RegNo)

theorem storeBy_eq :
    s.storeBy k x rn rd =
      if x.wback then (s.store k (x.addr (s.reg rn)) (s.storeValue rd)).setReg rn (x.offAddr (s.reg rn))
      else s.store k (x.addr (s.reg rn)) (s.storeValue rd) := rfl

theorem storeBy_storeOnly : StoreOnly s (s.storeBy k x rn rd) := by
  rw [storeBy_eq]
  split
  · exact (store_storeOnly ..).trans (setReg_storeOnly ..)
  · exact store_storeOnly ..

theorem storeBy_base : BaseEffect s (s.storeBy k x rn rd) x.wback rn (x.offAddr (s.reg rn)) :=
  setReg_baseEffect (store_cpsr ..) (store_regs ..) (store_pc ..) (store_bubble ..) ..

theorem storeBy_stored (h : Memory.wf s.mem = true) :
    Stored s (s.storeBy k x rn rd) [putOf k (x.addr (s.reg rn)) (s.storeValue rd)] := by
  rw [storeBy_eq]
  split
  · exact (store_stored h ..).congr (.refl s) rfl (.setReg ..) (setReg_mem ..)
  · exact store_stored h ..

theorem storeBy_cost : StoreCost s (s.storeBy k x rn rd) k (x.addr (s.reg rn)) := by
  rw [storeCost_iff, ← store_stepClocks s k _ (s.storeValue rd), storeBy_eq]
  split
  · exact setReg_stepClocks ..
  · rfl

end StoreBy

/-- Settles O25: every form is one `storeBy`. -/
theorem armStores : Obligations.ArmStores := by
  intro f c rn rd s ht hc hwf
  dsimp only
  rw [← storeValue_arm ht]
  exact ⟨_, exec_store_passed hc f rn rd, storeBy_storeOnly .., storeBy_base .., storeBy_stored _ _ _ _ _ hwf,
    storeBy_cost ..⟩

/-! ## Swaps -/

/-- What both swaps do: the load's access, the store of x[Rm], then Rd gets the value as it was before the store. -/
theorem swap_spec {s : State} (h : Memory.wf s.mem = true) (lk : LoadKind) (sk : StoreKind) (rn rd rm : RegNo) :
    let t := s.swap lk sk rn rd rm
    StoreOnly s t ∧ RegsBut s t [rd] ∧ Writes s t rd (loaded s lk (s.reg rn)) ∧
      Stored s t [putOf sk (s.reg rn) (s.reg rm)] := by
  rw [← loadValue_eq_loaded]
  unfold State.swap
  generalize s.loadValue lk (s.reg rn) = v
  generalize hs1 : s.loadAccess lk (s.reg rn) = s1
  have hmem : s1.mem = s.mem := by rw [← hs1, loadAccess_mem]
  have hdev : SameDevices s s1 := hs1 ▸ (SameDevices.loadAccess s lk _).symm
  generalize hs2 : s1.store sk (s.reg rn) (s.reg rm) = s2
  have honly : StoreOnly s s2 := hs2 ▸ hs1 ▸ (loadAccess_storeOnly ..).trans (store_storeOnly ..)
  have hc : s2.cpsr = s.cpsr := by rw [← hs2, store_cpsr, ← hs1, loadAccess_cpsr]
  have hr : s2.regs = s.regs := by rw [← hs2, store_regs, ← hs1, loadAccess_regs]
  have hp : s2.pc = s.pc := by rw [← hs2, store_pc, ← hs1, loadAccess_pc]
  have hb : s2.bubble = s.bubble := by rw [← hs2, store_bubble, ← hs1, loadAccess_bubble]
  have hstored : Stored s1 s2 [putOf sk (s.reg rn) (s.reg rm)] := hs2 ▸ store_stored (hmem ▸ h) ..
  exact ⟨(honly.trans (setReg_storeOnly ..)).trans (internal_storeOnly ..),
    (setReg_regsBut s2 rd v).congr hc.symm hr.symm, (setReg_writes s2 rd v).congr hp.symm hb.symm,
    hstored.congr hdev hmem.symm (.setReg ..) (setReg_mem ..)⟩

/-- Settles O26: both forms are one `State.swap`. -/
theorem swaps : Obligations.Swaps := fun _ rn rd _ rm _ hc hwf =>
  ⟨⟨_, runArm_passed hc _ _, swap_spec hwf .word .word rn rd rm⟩,
    _, runArm_passed hc _ _, swap_spec hwf .byte .byte rn rd rm⟩

end Sys2Proof.Machine
end

section
/-! Proofs of the statements about 43_arm_load_store.md, fourth part: the block transfers (R340 to R343). The registers of
a list in ascending order, and the address of each, count the listed registers below it; STM is then a sequence of word
stores that do not overlap. -/

namespace Sys2Proof.Machine

open Sys2Proof.Spec

/-! ## The registers of a list -/

/-- The registers that a list moves, ascending (R340, R343). -/
def moved (l : BitVec 16) : List Nat := (List.range 16).filter fun i => moves l i

theorem mem_moved {l : BitVec 16} {i : Nat} : i ∈ moved l ↔ i < 16 ∧ moves l i = true := by
  unfold moved; rw [List.mem_filter, List.mem_range]

theorem lt_of_mem_moved {l : BitVec 16} {i : Nat} (h : i ∈ moved l) : i < 16 := (mem_moved.mp h).1

theorem moved_zero : moved 0 = [15] := by decide

theorem moved_ne_zero {l : BitVec 16} (h : l ≠ 0) : moved l = (List.range 16).filter fun i => l.getLsbD i := by
  unfold moved moves
  simp only [if_neg h]

theorem moved_pairwise (l : BitVec 16) : (moved l).Pairwise (· < ·) := List.Pairwise.filter _ List.pairwise_lt_range

theorem blockRegs_eq (l : BitVec 16) : blockRegs l = (moved l).map (BitVec.ofNat 4) := by
  unfold blockRegs
  split
  · next h => subst h; rw [moved_zero]; rfl
  · next h => rw [moved_ne_zero h]; rfl

theorem blockSize_eq_span (l : BitVec 16) : blockSize l = span l := by
  have hcount : (regList l).length = below l 16 := List.length_map _
  unfold blockSize blockCount span
  rw [hcount]

theorem blockStart_eq_firstAddr (p u : Bool) (base n : Word) : blockStart p u base n = firstAddr p u base n := by
  cases p <;> cases u <;> rfl

theorem ofNat_inj_of_lt {i j : Nat} (hi : i < 16) (hj : j < 16) : BitVec.ofNat 4 i = BitVec.ofNat 4 j ↔ i = j := by
  rw [← BitVec.toNat_inj, BitVec.toNat_ofNat, BitVec.toNat_ofNat, Nat.mod_eq_of_lt hi, Nat.mod_eq_of_lt hj]

/-! ## The position of a register in the list -/

/-- Below R15 an empty list moves nothing, so `below` counts the registers that are moved. -/
theorem below_eq_length (l : BitVec 16) {i : Nat} (h : i < 16) :
    below l i = ((List.range i).filter fun j => moves l j).length := by
  unfold below
  congr 1
  refine List.filter_congr fun j hj => ?_
  have hj : j < i := List.mem_range.mp hj
  unfold moves
  split
  · next h0 =>
    have hj15 : (j == 15) = false := beq_eq_false_iff_ne.mpr (by omega)
    rw [h0, hj15]; exact BitVec.getLsbD_zero
  · rfl

theorem below_succ {l : BitVec 16} {i : Nat} (h : i + 1 < 16) :
    below l (i + 1) = below l i + if moves l i then 1 else 0 := by
  rw [below_eq_length l h, below_eq_length l (by omega), List.range_succ, List.filter_append, List.length_append,
    List.filter_singleton]
  cases moves l i <;> rfl

theorem below_mono {l : BitVec 16} {i j : Nat} (h : i ≤ j) (hj : j < 16) : below l i ≤ below l j := by
  rw [below_eq_length l hj, below_eq_length l (by omega)]
  exact ((List.range_sublist.mpr h).filter _).length_le

/-- A listed register counts among those below a later one. -/
theorem below_lt {l : BitVec 16} {i j : Nat} (hi : moves l i = true) (h : i < j) (hj : j < 16) :
    below l i < below l j := by
  have hsucc : below l (i + 1) = below l i + 1 := by rw [below_succ (by omega), if_pos hi]
  have := below_mono (l := l) (show i + 1 ≤ j from h) hj
  omega

theorem below_le (l : BitVec 16) (i : Nat) : below l i ≤ i := by
  unfold below
  exact (List.length_filter_le _ _).trans_eq List.length_range

theorem below_eq_zero_iff {l : BitVec 16} {i : Nat} (h : i < 16) : below l i = 0 ↔ ∀ j < i, moves l j = false := by
  rw [below_eq_length l h, List.length_eq_zero_iff, List.filter_eq_nil_iff]
  simp

/-- The lowest register of the list is the one with none below it. -/
theorem eq_lowestReg_iff {l : BitVec 16} {i : Nat} (h : i ∈ moved l) :
    BitVec.ofNat 4 i = lowestReg l ↔ below l i = 0 := by
  have hpair := moved_pairwise l
  rw [below_eq_zero_iff (lt_of_mem_moved h), lowestReg, blockRegs_eq]
  cases hl : moved l with
  | nil => rw [hl] at h; exact absurd h List.not_mem_nil
  | cons i0 rest =>
    rw [hl, List.pairwise_cons] at hpair
    have h0 : i0 ∈ moved l := hl ▸ List.mem_cons_self
    have hcases : i = i0 ∨ i ∈ rest := List.mem_cons.mp (hl ▸ h)
    refine (ofNat_inj_of_lt (lt_of_mem_moved h) (lt_of_mem_moved h0)).trans ⟨?_, fun hnone => ?_⟩
    · rintro rfl j hj
      by_contra hmoves
      have hmem : j ∈ moved l := mem_moved.mpr ⟨hj.trans (lt_of_mem_moved h), by simpa using hmoves⟩
      rcases List.mem_cons.mp (hl ▸ hmem) with rfl | hrest
      · exact Nat.lt_irrefl _ hj
      · exact Nat.lt_asymm hj (hpair.1 j hrest)
    · refine hcases.resolve_right fun hrest => ?_
      have hfalse := hnone i0 (hpair.1 i hrest)
      rw [(mem_moved.mp h0).2] at hfalse
      exact Bool.noConfusion hfalse

/-! ## The addresses -/

theorem blockSlots_append (xs ys : List RegNo) (a : Word) :
    blockSlots (xs ++ ys) a = blockSlots xs a ++ blockSlots ys (a + BitVec.ofNat 32 (4 * xs.length)) := by
  induction xs generalizing a with
  | nil => simp [blockSlots]
  | cons x xs ih =>
    have hstep : a + 4 + BitVec.ofNat 32 (4 * xs.length) = a + BitVec.ofNat 32 (4 * (xs.length + 1)) := by
      rw [Nat.mul_add, BitVec.ofNat_add, BitVec.add_comm (BitVec.ofNat 32 _), ← BitVec.add_assoc]; rfl
    rw [List.cons_append, blockSlots, ih, hstep]
    rfl

/-- Each register of a filtered range stands as far from the first address as there are registers before it. -/
theorem blockSlots_filter_range (f : Nat → Bool) (a : Word) (n : Nat) :
    blockSlots (((List.range n).filter f).map (BitVec.ofNat 4)) a =
      ((List.range n).filter f).map fun i =>
        (BitVec.ofNat 4 i, a + BitVec.ofNat 32 (4 * ((List.range i).filter f).length)) := by
  induction n with
  | zero => rfl
  | succ n ih =>
    rw [List.range_succ, List.filter_append, List.map_append, List.map_append, blockSlots_append, ih, List.length_map,
      List.filter_singleton]
    cases f n <;> rfl

/-- The address of a listed register before it is aligned (R340). -/
def rawSlot (l : BitVec 16) (p u : Bool) (base : Word) (i : Nat) : Word :=
  firstAddr p u base (span l) + BitVec.ofNat 32 (4 * below l i)

theorem slotOf_eq (l : BitVec 16) (p u : Bool) (base : Word) (i : Nat) :
    slotOf l p u base i = (alignWord (rawSlot l p u base i)).toNat := (alignWord_toNat _).symm

theorem blockSlots_eq (l : BitVec 16) (p u : Bool) (base : Word) :
    blockSlots (blockRegs l) (blockStart p u base (blockSize l)) =
      (moved l).map fun i => (BitVec.ofNat 4 i, rawSlot l p u base i) := by
  rw [blockRegs_eq, blockSize_eq_span, blockStart_eq_firstAddr]
  refine (blockSlots_filter_range ..).trans (List.map_congr_left fun i hi => ?_)
  rw [← below_eq_length l (lt_of_mem_moved hi)]
  rfl

/-- Words at different positions do not overlap, also where the addresses wrap. -/
theorem slotOf_apart {l : BitVec 16} (p u : Bool) (base : Word) {i j : Nat} (hi : i ∈ moved l) (hj : j ∈ moved l)
    (h : i < j) (v w : Word) : (Put.mk (slotOf l p u base i) 4 v).Apart ⟨slotOf l p u base j, 4, w⟩ := by
  have hlt := below_lt (mem_moved.mp hi).2 h (lt_of_mem_moved hj)
  have hle := below_le l j
  have h16 := lt_of_mem_moved hj
  unfold Put.Apart slotOf
  simp only [BitVec.toNat_add, BitVec.toNat_ofNat]
  omega

/-! ## STM -/

/-- Word stores that do not overlap (R342). -/
theorem blockStore_stored (vals : List (RegNo × Word × Word)) {s : State} (h : Memory.wf s.mem = true)
    (hd : (vals.map fun x => putOf .word x.2.1 x.2.2).Pairwise Put.Apart) :
    Stored s (s.blockStore vals) (vals.map fun x => putOf .word x.2.1 x.2.2) := by
  induction vals generalizing s with
  | nil => exact .nil s
  | cons x rest ih =>
    obtain ⟨hx, hrest⟩ := List.pairwise_cons.mp hd
    exact (store_stored h .word x.2.1 x.2.2).cons (ih (store_wf _ _ _ h) hrest) hx

theorem stmValue_eq (s : State) (S w : Bool) (rn : RegNo) {l : BitVec 16} (final : Word) {i : Nat} (h : i ∈ moved l) :
    s.stmValue S w rn (lowestReg l) final (BitVec.ofNat 4 i) = stmWord s S w rn l final s.pcPlus i := by
  have h15 : BitVec.ofNat 4 i = 15#4 ↔ i = 15 := ofNat_inj_of_lt (lt_of_mem_moved h) (by decide)
  unfold State.stmValue stmWord
  simp only [ne_eq, eq_lowestReg_iff h, h15]

theorem stmVals_eq (s : State) (p u S w : Bool) (rn : RegNo) (l : BitVec 16) :
    s.stmVals p u S w rn l = (moved l).map fun i => (BitVec.ofNat 4 i, rawSlot l p u (s.reg rn) i,
      stmWord s S w rn l (lastAddr u (s.reg rn) (span l)) s.pcPlus i) := by
  unfold State.stmVals
  dsimp only
  rw [blockSlots_eq, blockSize_eq_span, List.map_map]
  exact List.map_congr_left fun i hi => by rw [← stmValue_eq s S w rn _ hi]; rfl

theorem stm_eq (s : State) (p u S w : Bool) (rn : RegNo) (l : BitVec 16) :
    s.stm p u S w rn l =
      if w then (s.blockStore (s.stmVals p u S w rn l)).setReg rn (lastAddr u (s.reg rn) (span l))
      else s.blockStore (s.stmVals p u S w rn l) := by
  rw [← blockSize_eq_span]; rfl

theorem blockStore_stmVals_stored {s : State} (h : Memory.wf s.mem = true) (p u S w : Bool) (rn : RegNo)
    (l : BitVec 16) :
    Stored s (s.blockStore (s.stmVals p u S w rn l)) ((moved l).map fun i =>
      ⟨slotOf l p u (s.reg rn) i, 4, stmWord s S w rn l (lastAddr u (s.reg rn) (span l)) s.pcPlus i⟩) := by
  have hputs : (s.stmVals p u S w rn l).map (fun x => putOf .word x.2.1 x.2.2) = (moved l).map fun i =>
      ⟨slotOf l p u (s.reg rn) i, 4, stmWord s S w rn l (lastAddr u (s.reg rn) (span l)) s.pcPlus i⟩ := by
    rw [stmVals_eq, List.map_map]; rfl
  rw [← hputs]
  refine blockStore_stored _ h ?_
  rw [hputs]
  exact List.pairwise_map.mpr ((moved_pairwise l).imp_of_mem fun hi hj hlt => slotOf_apart p u _ hi hj hlt _ _)

theorem blockStore_storeOnly (s : State) (vals : List (RegNo × Word × Word)) : StoreOnly s (s.blockStore vals) := by
  unfold StoreOnly; rw [blockStore_only]

/-- What an STM does, also that of THUMB: R15 stores the address one instruction further than it reads. -/
theorem stm_stmEffect {s : State} (h : Memory.wf s.mem = true) (p u S w : Bool) (rn : RegNo) (l : BitVec 16) :
    StmEffect s (s.stm p u S w rn l) p u S w rn l s.pcPlus := by
  have hstored := blockStore_stmVals_stored h p u S w rn l
  rw [stm_eq]
  refine ⟨?only, setReg_baseEffect (blockStore_cpsr ..) (blockStore_regs ..) (blockStore_pc ..) (blockStore_bubble ..)
    w rn _, ?stored⟩
  case only =>
    split
    · exact (blockStore_storeOnly ..).trans (setReg_storeOnly ..)
    · exact blockStore_storeOnly ..
  case stored =>
    split
    · exact hstored.congr (.refl s) rfl (.setReg ..) (setReg_mem ..)
    · exact hstored

/-- Settles O28: an STM in ARM state is one `State.stm`. -/
theorem stmStores : Obligations.StmStores := by
  intro c p u S w rn l s ht hc hwf
  have hpc : s.pcPlus = s.pc + 4 := by unfold State.pcPlus State.w; rw [ht]; rfl
  exact ⟨_, runArm_passed hc _ _, hpc ▸ stm_stmEffect hwf p u S w rn l⟩

end Sys2Proof.Machine
end

section
/-! Proofs of the statements about 43_arm_load_store.md, fifth part: LDM (R341, R343). Its register writes name each
register once, so each listed register holds its own word, and R15 comes last as a branch or an exception return. -/

namespace Sys2Proof.Machine

open Sys2Proof.Spec

/-! ## The words of a block load -/

theorem blockLoad_eq (s : State) (l : BitVec 16) (p u : Bool) (base : Word) :
    s.blockLoad (blockSlots (blockRegs l) (blockStart p u base (blockSize l))) =
      (moved l).map fun i => (BitVec.ofNat 4 i, wordAt s (slotOf l p u base i)) := by
  unfold State.blockLoad
  rw [blockSlots_eq, List.map_map]
  exact List.map_congr_left fun i _ => by rw [slotOf_eq]; rfl

theorem moved_names_nodup (l : BitVec 16) : ((moved l).map (BitVec.ofNat 4)).Nodup :=
  List.pairwise_map.mpr ((moved_pairwise l).imp_of_mem fun hi hj hlt e =>
    Nat.ne_of_lt hlt ((ofNat_inj_of_lt (lt_of_mem_moved hi) (lt_of_mem_moved hj)).mp e))

theorem ofNat_eq_pc_iff {l : BitVec 16} {i : Nat} (h : i ∈ moved l) : BitVec.ofNat 4 i = 15#4 ↔ i = 15 :=
  ofNat_inj_of_lt (lt_of_mem_moved h) (by decide)

theorem inList_pc (l : BitVec 16) : inList l 15#4 = moves l 15 := by
  unfold inList
  rw [blockRegs_eq, Bool.eq_iff_iff, List.contains_iff_mem, List.mem_map]
  constructor
  · rintro ⟨i, hi, h15⟩
    obtain rfl := (ofNat_eq_pc_iff hi).mp h15
    exact (mem_moved.mp hi).2
  · exact fun h => ⟨15, mem_moved.mpr ⟨by decide, h⟩, rfl⟩

/-- The entry of R15, when it is listed. -/
theorem find_pc (l : BitVec 16) (g : Nat → Word) :
    ((moved l).map fun i => (BitVec.ofNat 4 i, g i)).find? (fun x => x.1 == 15#4) =
      if moves l 15 then some (15#4, g 15) else none := by
  rw [List.find?_map]
  cases hf : (moved l).find? ((fun x : RegNo × Word => x.1 == 15#4) ∘ fun i => (BitVec.ofNat 4 i, g i)) with
  | some i =>
    have hi := List.mem_of_find?_eq_some hf
    have hpc := List.find?_some hf
    obtain rfl := (ofNat_eq_pc_iff hi).mp (beq_iff_eq.mp hpc)
    rw [if_pos (mem_moved.mp hi).2]; rfl
  | none =>
    rw [if_neg fun h => List.find?_eq_none.mp hf 15 (mem_moved.mpr ⟨by decide, h⟩) rfl]; rfl

/-! ## The register writes of a block load -/

/-- The bank that the register writes name their registers in. -/
def loadBank (s : State) (user : Bool) : Mode := if user then .user else s.cpsr.mode

theorem blockSet_cons (s : State) (user : Bool) (x : RegNo × Word) (rest : List (RegNo × Word)) :
    s.blockSet user (x :: rest) =
      (if x.1 = 15#4 then s else s.setRegIn (loadBank s user) x.1 x.2).blockSet user rest := by
  cases user <;> rfl

theorem blockSet_keeps_pc (user : Bool) (vals : List (RegNo × Word)) (s : State) :
    (s.blockSet user vals).pc = s.pc ∧ (s.blockSet user vals).bubble = s.bubble := by
  induction vals generalizing s with
  | nil => exact ⟨rfl, rfl⟩
  | cons x rest ih =>
    rw [blockSet_cons]
    split
    · exact ih s
    · next h =>
      obtain ⟨hp, hb⟩ := setRegIn_keeps_pc (s := s) (m := loadBank s user) x.2 h
      exact ⟨(ih _).1.trans hp, (ih _).2.trans hb⟩

theorem setRegIn_regs_same {s : State} {m : Mode} {r : RegNo} {q : Fin 30} (v : Word) (h : phys m r = some q) :
    (s.setRegIn m r v).regs[q] = v := by
  rw [setRegIn_of_phys v h]; simp

/-- Each register that is named once holds its own word. -/
theorem blockSet_regs_listed (user : Bool) {r : RegNo} {v : Word} {q : Fin 30} (vals : List (RegNo × Word)) (s : State)
    (hnd : (vals.map Prod.fst).Nodup) (hx : (r, v) ∈ vals) (hq : phys (loadBank s user) r = some q) :
    (s.blockSet user vals).regs[q] = v := by
  induction vals generalizing s with
  | nil => exact absurd hx List.not_mem_nil
  | cons x rest ih =>
    have h15 : r ≠ 15#4 := fun h => by rw [(phys_eq_none_iff _ r).mpr h] at hq; cases hq
    obtain ⟨hnot, hrest⟩ := List.nodup_cons.mp hnd
    have hbank (s1 : State) (h : s1.cpsr = s.cpsr) : loadBank s1 user = loadBank s user := by unfold loadBank; rw [h]
    rw [blockSet_cons]
    rcases List.mem_cons.mp hx with rfl | hx
    · rw [if_neg h15, blockSet_regs_other, setRegIn_regs_same v hq]
      intro y hy hphys
      rw [setRegIn_cpsr] at hphys
      exact hnot (List.mem_map.mpr ⟨y, hy, phys_inj hphys hq⟩)
    · refine ih _ hrest hx ?_
      rw [hbank _ (by split <;> simp), hq]

/-! ## The parts of an LDM -/

theorem blockReads_loadOnly (s : State) (slots : List (RegNo × Word)) : LoadOnly s (s.blockReads slots) := by
  unfold LoadOnly; rw [blockReads_only]

theorem blockSet_loadOnly (s : State) (user : Bool) (vals : List (RegNo × Word)) :
    LoadOnly s (s.blockSet user vals) := by
  unfold LoadOnly; rw [blockSet_only]

theorem blockBranch_loadOnly (s : State) (restore : Bool) (vals : List (RegNo × Word)) :
    LoadOnly s (s.blockBranch restore vals) := by
  unfold LoadOnly; rw [blockBranch_only]

/-- The state of an LDM after its accesses and its writeback. -/
def State.ldmBase (s : State) (p u w : Bool) (rn : RegNo) (l : BitVec 16) : State :=
  let s1 := s.blockReads (blockSlots (blockRegs l) (blockStart p u (s.reg rn) (blockSize l)))
  if w then s1.setReg rn (lastAddr u (s.reg rn) (span l)) else s1

/-- The words an LDM loads, each with its register. -/
def State.ldmVals (s : State) (p u : Bool) (rn : RegNo) (l : BitVec 16) : List (RegNo × Word) :=
  (moved l).map fun i => (BitVec.ofNat 4 i, wordAt s (slotOf l p u (s.reg rn) i))

/-- The state of an LDM before R15 is written. -/
def State.ldmRegs (s : State) (p u S w : Bool) (rn : RegNo) (l : BitVec 16) : State :=
  (s.ldmBase p u w rn l).blockSet (S && !moves l 15) (s.ldmVals p u rn l)

section Ldm

variable (s : State) (p u S w : Bool) (rn : RegNo) (l : BitVec 16)

theorem ldmVals_names : (s.ldmVals p u rn l).map Prod.fst = (moved l).map (BitVec.ofNat 4) := by
  unfold State.ldmVals; rw [List.map_map]; rfl

theorem ldmBase_cpsr : (s.ldmBase p u w rn l).cpsr = s.cpsr := by
  unfold State.ldmBase; cases w <;> simp

theorem ldmBase_spsr : (s.ldmBase p u w rn l).spsr = s.spsr := by
  unfold State.ldmBase; cases w <;> simp

theorem ldmBase_baseEffect : BaseEffect s (s.ldmBase p u w rn l) w rn (lastAddr u (s.reg rn) (span l)) :=
  setReg_baseEffect (blockReads_cpsr ..) (blockReads_regs ..) (blockReads_pc ..) (blockReads_bubble ..) w rn _

theorem ldmBase_regs (q : Fin 30) :
    (s.ldmBase p u w rn l).regs[q] =
      if w = true ∧ phys s.cpsr.mode rn = some q then lastAddr u (s.reg rn) (span l) else s.regs[q] := by
  unfold State.ldmBase
  dsimp only
  cases w with
  | false => rw [if_neg Bool.false_ne_true, if_neg (fun h => Bool.false_ne_true h.1), blockReads_regs]
  | true =>
    rw [if_pos rfl]
    split
    · next h => exact setRegIn_regs_same _ (by rw [blockReads_cpsr]; exact h.2)
    · next h => rw [setReg_regs_other _ (fun k => h ⟨rfl, by rwa [blockReads_cpsr] at k⟩), blockReads_regs]

theorem ldmRegs_loadOnly : LoadOnly s (s.ldmRegs p u S w rn l) := by
  refine LoadOnly.trans ?_ (blockSet_loadOnly ..)
  unfold State.ldmBase
  dsimp only
  split
  · exact (blockReads_loadOnly ..).trans (setReg_loadOnly ..)
  · exact blockReads_loadOnly ..

theorem ldmRegs_cpsr : (s.ldmRegs p u S w rn l).cpsr = s.cpsr := (blockSet_cpsr ..).trans (ldmBase_cpsr ..)

theorem ldmRegs_spsr : (s.ldmRegs p u S w rn l).spsr = s.spsr := (blockSet_spsr ..).trans (ldmBase_spsr ..)

/-- Only the writeback can have branched so far. -/
theorem ldmRegs_branches :
    if w = true ∧ rn = 15#4 then Jumps (s.ldmRegs p u S w rn l) (lastAddr u (s.reg rn) (span l))
    else Stays s (s.ldmRegs p u S w rn l) := by
  have key := (ldmBase_baseEffect s p u w rn l).branches
  obtain ⟨hp, hb⟩ := blockSet_keeps_pc (S && !moves l 15) (s.ldmVals p u rn l) (s.ldmBase p u w rn l)
  split
  · next h => rw [if_pos h] at key; exact key.congr (blockSet_cpsr ..) hp hb
  · next h => rw [if_neg h] at key; exact key.congr rfl rfl hp hb

/-- With S and no R15 the registers are those of the User bank (R343). -/
theorem ldmBase_bank : loadBank (s.ldmBase p u w rn l) (S && !moves l 15) =
    if S = true ∧ moves l 15 = false then .user else s.cpsr.mode := by
  unfold loadBank; rw [ldmBase_cpsr]; simp

theorem ldmRegs_listed {i : Nat} (hi : i < 16) (hm : moves l i = true) {q : Fin 30}
    (hq : phys (if S = true ∧ moves l 15 = false then .user else s.cpsr.mode) (BitVec.ofNat 4 i) = some q) :
    (s.ldmRegs p u S w rn l).regs[q] = wordAt s (slotOf l p u (s.reg rn) i) := by
  have hnd : ((s.ldmVals p u rn l).map Prod.fst).Nodup := by rw [ldmVals_names]; exact moved_names_nodup l
  rw [← ldmBase_bank s p u S w rn l] at hq
  exact blockSet_regs_listed _ _ _ hnd (List.mem_map.mpr ⟨i, mem_moved.mpr ⟨hi, hm⟩, rfl⟩) hq

theorem ldmRegs_other {q : Fin 30} (hq : ∀ i < 15, moves l i = true →
      phys (if S = true ∧ moves l 15 = false then .user else s.cpsr.mode) (BitVec.ofNat 4 i) ≠ some q) :
    (s.ldmRegs p u S w rn l).regs[q] =
      if w = true ∧ phys s.cpsr.mode rn = some q then lastAddr u (s.reg rn) (span l) else s.regs[q] := by
  rw [← ldmBase_regs s p]
  refine blockSet_regs_other _ _ _ fun x hx => ?_
  change phys (loadBank (s.ldmBase p u w rn l) (S && !moves l 15)) x.1 ≠ some q
  obtain ⟨i, hi, rfl⟩ := List.mem_map.mp hx
  obtain ⟨h16, hm⟩ := mem_moved.mp hi
  rw [ldmBase_bank]
  rcases Nat.lt_succ_iff_lt_or_eq.mp h16 with h | rfl
  · exact hq i h hm
  · rw [(phys_eq_none_iff _ _).mpr rfl]; nofun

theorem ldm_eq :
    s.ldm p u S w rn l = ((s.ldmRegs p u S w rn l).blockBranch S (s.ldmVals p u rn l)).internal 1 := by
  unfold State.ldm State.ldmRegs State.ldmBase State.ldmVals
  rw [← inList_pc, ← blockLoad_eq, ← blockSize_eq_span]
  rfl

theorem ldm_loadOnly : LoadOnly s (s.ldm p u S w rn l) := by
  rw [ldm_eq]
  exact ((ldmRegs_loadOnly ..).trans (blockBranch_loadOnly ..)).trans (internal_loadOnly ..)

theorem ldm_regs : (s.ldm p u S w rn l).regs = (s.ldmRegs p u S w rn l).regs := by
  rw [ldm_eq, internal_regs, blockBranch_regs]

theorem blockBranch_ldmVals (t : State) :
    t.blockBranch S (s.ldmVals p u rn l) =
      if moves l 15 then (if S then t.restoreCpsr else t).branch (wordAt s (slotOf l p u (s.reg rn) 15)) else t := by
  unfold State.blockBranch State.ldmVals
  rw [find_pc]
  cases moves l 15 <;> rfl

end Ldm

/-- The load of R15 is the write of R15 of data processing: a branch, with S after an exception return (R615). -/
theorem restoringBranch_spec (s : State) (S : Bool) (v : Word) :
    let t := (if S then s.restoreCpsr else s).branch v
    (if S = true then Restored s t else t.cpsr = s.cpsr) ∧ Jumps t v := by
  dsimp only
  rw [← dpWrite_pc s S ⟨v, s.cpsr⟩]
  exact ⟨dpWrite_restored s S _, dpWrite_jumps s S _⟩

/-- What an LDM does, also that of THUMB. -/
theorem ldm_ldmEffect (s : State) (p u S w : Bool) (rn : RegNo) (l : BitVec 16) :
    LdmEffect s (s.ldm p u S w rn l) p u S w rn l := by
  refine ⟨ldm_loadOnly .., fun i hi hm q hq => ?listed, fun q hq => ?other, ?pc⟩
  case listed => rw [ldm_regs]; exact ldmRegs_listed s p u S w rn l (by omega) hm hq
  case other => rw [ldm_regs]; exact ldmRegs_other s p u S w rn l hq
  case pc =>
    rw [ldm_eq, blockBranch_ldmVals]
    split
    · rw [← restored_congr (ldmRegs_cpsr s p u S w rn l) (ldmRegs_spsr ..), ← ldmRegs_cpsr s p u S w rn l]
      exact restoringBranch_spec (s.ldmRegs p u S w rn l) S _
    · exact ⟨ldmRegs_cpsr .., ldmRegs_branches ..⟩

/-- Settles O27: an LDM is one `State.ldm`. -/
theorem ldmLoads : Obligations.LdmLoads := fun _ p u S w rn l s hc =>
  ⟨_, runArm_passed hc _ _, ldm_ldmEffect s p u S w rn l⟩

end Sys2Proof.Machine
end

section
/-! Proofs of the statements about 44_arm_exception_generating.md: SWI and the undefined and coprocessor encodings
(R380 to R388, R501, R506). Each is one exception entry (R604), whose effect is said once for all six exceptions. -/

namespace Sys2Proof.Machine

open Sys2Proof.Spec

/-! ## What an exception entry does -/

section Entry

variable (s : State) (e : Exc) (lr : Word)

theorem enterException_spsr : (s.enterException e lr).spsr = s.spsr.set e.mode (savedWord s.cpsr) := by
  unfold State.enterException; rw [branch_spsr, setReg_spsr]; rfl

theorem enterException_cpsr :
    (s.enterException e lr).cpsr =
      { s.cpsr with mode := e.mode, t := false, i := true, f := s.cpsr.f || decide (e = .fiq) } := by
  unfold State.enterException; rw [branch_cpsr, setReg_cpsr]; rfl

/-- The entry branches in ARM state, and every vector is a word address (R602). -/
theorem enterException_pc : (s.enterException e lr).pc = e.vector := by
  have hvec : alignTarget false e.vector = e.vector := by cases e <;> rfl
  unfold State.enterException
  rw [branch_pc, setReg_cpsr]
  exact hvec

theorem enterException_bubble : (s.enterException e lr).bubble = 2 := rfl

theorem enterException_busLast : (s.enterException e lr).busLast = none := by
  unfold State.enterException; rw [branch_busLast, setReg_busLast]

/-- The link register is that of the mode entered. -/
theorem reg_enterException_link : (s.enterException e lr).reg 14#4 = lr := by
  have h14 : 14#4 ≠ 15#4 := by decide
  unfold State.enterException
  rw [reg_branch h14, reg_setReg_same _ h14]

end Entry

theorem Exc.mode_eq (e : Exc) : e.mode = (entryOf e).1 := by cases e <;> rfl

theorem Exc.vector_eq (e : Exc) : e.vector = (entryOf e).2 := by cases e <;> rfl

/-- An exception entry as R603 and R604 say it. -/
theorem enterException_enters (s : State) (e : Exc) (lr : Word) :
    Enters s (s.enterException e lr) (entryOf e).1 (entryOf e).2 lr (s.cpsr.f || decide (e = .fiq)) := by
  rw [← Exc.mode_eq, ← Exc.vector_eq]
  refine ⟨?only, reg_enterException_link s e lr, fun p hp => enterException_regs_other lr hp, ?bank⟩
  case only =>
    conv_lhs => rw [enterException_only, enterException_cpsr, enterException_pc, enterException_bubble,
      enterException_busLast]
    rw [enterException_stepClocks]
  case bank => rw [enterException_spsr]; cases e <;> exact ⟨rfl, rfl, rfl, rfl, rfl, rfl⟩

/-! ## The instructions that raise -/

theorem nextAddr_eq (s : State) : s.nextAddr = s.pc - width s := rfl

theorem raiseSwi_enters (s : State) : Enters s s.raiseSwi .svc 0x08 (s.pc - width s) s.cpsr.f := by
  have h := enterException_enters s .swi s.nextAddr
  rwa [nextAddr_eq, decide_eq_false nofun, Bool.or_false] at h

theorem raiseSwi_stepClocks (s : State) : s.raiseSwi.stepClocks = s.stepClocks := enterException_stepClocks ..

/-- The internal cycle is charged before the entry, which leaves the clocks of the step alone. -/
theorem raiseUndefined_enters (s : State) : Enters s s.raiseUndefined .und 0x04 (s.pc - width s) s.cpsr.f := by
  have h := enterException_enters (s.internal 1) .undefined s.nextAddr
  rwa [nextAddr_eq, decide_eq_false nofun, Bool.or_false] at h

theorem raiseUndefined_stepClocks (s : State) : s.raiseUndefined.stepClocks = s.stepClocks + 1 :=
  enterException_stepClocks ..

section Passed

variable {i : Instr} {s : State} (hc : condPassed (instrCond i) s.cpsr = true)
include hc

theorem exec_swiInstr (hi : swiInstr i = true) : exec i s = .next s.raiseSwi := by
  cases i
  case swi => exact runArm_passed hc _ _
  case tSwi => rfl
  all_goals exact absurd hi Bool.false_ne_true

theorem exec_undefinedInstr (hi : undefinedInstr i = true) : exec i s = .next s.raiseUndefined := by
  cases i
  case undefU1 | undefU2 | undefU3 | undefU4 | undefU5 | cdp | ldc | stc | mcr | mrc => exact runArm_passed hc _ _
  case tUndefU1a | tUndefU1b | tUndefU1c | tUndefU1d | tUndefU1e | tUndefU2 | tUndefU3 => rfl
  all_goals exact absurd hi Bool.false_ne_true

end Passed

/-- Settles O21: a trap instruction is one exception entry, with the link of R605 and R606. -/
theorem trapInstructions : Obligations.TrapInstructions := fun _ s _ hc =>
  ⟨fun hi => ⟨_, exec_swiInstr hc hi, raiseSwi_enters s, raiseSwi_stepClocks s⟩,
    fun hi => ⟨_, exec_undefinedInstr hc hi, raiseUndefined_enters s, raiseUndefined_stepClocks s⟩⟩

end Sys2Proof.Machine
end

section
/-! Proofs of the statements about 45_thumb_alu.md (R400 to R438). The THUMB operations are those of the ARM set with S =
1 and a destination that is never R15, so the rules of the ARM register write and of what an operation computes serve
here as they stand. -/

namespace Sys2Proof.Machine

open Sys2Proof.Spec

theorem low_ne_pc (r : LowReg) : low r ≠ 15#4 := by revert r; decide

/-! ## The result write -/

theorem tWrite_eq_dpWrite (s : State) (rd : LowReg) (x : AluOut) : s.tWrite rd x = s.dpWrite true (low rd) x := by
  rw [dpWrite_ne_pc s true x (low_ne_pc rd), ← lowReg_eq_low]; rfl

/-- What every THUMB operation does with its result `r` and its status word `p`, after `k` internal cycles. -/
theorem tWrite_spec {s : State} {p : Cpsr} (hp : s.cpsr.FlagsOnly p) (rd : LowReg) (r : Word) (k : Nat) :
    let t := (s.tWrite rd ⟨r, p⟩).internal k
    t.reg (low rd) = r ∧ t.cpsr = p ∧ RegsBut s t [low rd] ∧ Stays s t ∧ CpuOnly s t ∧
      t.stepClocks = s.stepClocks + k := by
  have hrd := low_ne_pc rd
  rw [tWrite_eq_dpWrite]
  exact ⟨reg_dpWrite s true hrd hp, dpWrite_cpsr_ne s true _ hrd, dpWrite_regsBut s true _ hrd,
    dpWrite_stays s true _ hrd, dpWrite_cpuOnly .., dpWrite_clocks ..⟩

theorem tTest_eq (o : TestOp) (a b : Word) (s : State) :
    tTest (testAlu o) a b s = .next { s with cpsr := o.flags a (s.plainOp b) s.cpsr } := by
  rw [tTest, testAlu_p]

/-- An operand that goes through no shifter leaves C as it was. -/
theorem logicFlags_carry (p : Cpsr) (r : Word) : logicFlags p r p.c = nzOf p r := rfl

/-! ## Arithmetic and compares -/

theorem arithFlags_flagsOnly (o : ArithOp) (a b : Word) (p : Cpsr) : p.FlagsOnly (o.flags a b p) := rfl

theorem tAlu_arith (o : ArithOp) (rd : LowReg) (a b : Word) (s : State) :
    tAlu (dpAlu (.arith o)) rd a b s = .next (s.tWrite rd ⟨o.result a b s.cpsr.c, o.flags a b s.cpsr⟩) := by
  rw [tAlu, dpAlu_arith]; rfl

/-- NEG runs the reverse subtraction of 0 from Rs, which is the subtraction of Rs from 0 (R420). -/
theorem exec_tArith (f : TArith) (s : State) :
    exec (f.form s).instr s = tAlu (dpAlu (.arith (f.form s).op)) (f.form s).rd (f.form s).a (f.form s).b s := by
  unfold TArith.form
  simp only [← lowReg_eq_low, BitVec.ofNat_toNat]
  cases f <;> rfl

theorem exec_tCompare (f : TCompare) (s : State) : exec f.instr s = .next { s with cpsr := f.flags s } := by
  unfold TCompare.flags
  simp only [← lowReg_eq_low, ← hiReg_eq_high, BitVec.ofNat_toNat]
  cases f with
  | cmpImm8 => exact tTest_eq .cmp ..
  | cmp => exact tTest_eq .cmp ..
  | cmn => exact tTest_eq .cmn ..
  | cmpHi => exact tTest_eq .cmp ..

/-- Settles O29: an arithmetic instruction writes the exact result and its flags, a compare the flags alone. -/
theorem thumbArith : Obligations.ThumbArith := fun s =>
  ⟨fun f => ⟨_, (exec_tArith f s).trans (tAlu_arith ..), tWrite_spec (arithFlags_flagsOnly ..) _ _ 0⟩,
    fun f => exec_tCompare f s⟩

/-! ## Logical instructions -/

theorem nzOf_flagsOnly (p : Cpsr) (r : Word) : p.FlagsOnly (nzOf p r) := rfl

theorem tAlu_logic (o : LogicOp) (rd : LowReg) (a b : Word) (s : State) :
    tAlu (dpAlu (.logic o)) rd a b s = .next (s.tWrite rd ⟨o.result a b, nzOf s.cpsr (o.result a b)⟩) := by
  rw [tAlu, dpAlu_logic, ← logicFlags_carry]; rfl

theorem exec_tLogic (f : TLogic) (s : State) :
    exec f.instr s = .next (s.tWrite f.rd ⟨f.result s, nzOf s.cpsr (f.result s)⟩) := by
  unfold TLogic.result
  simp only [← lowReg_eq_low, BitVec.ofNat_toNat]
  cases f with
  | and => exact tAlu_logic .and ..
  | eor => exact tAlu_logic .eor ..
  | orr => exact tAlu_logic .orr ..
  | bic => exact tAlu_logic .bic ..
  | mvn rs rd => exact tAlu_logic .mvn rd (s.reg (lowReg rd)) _ s
  | movImm8 rd => exact tAlu_logic .mov rd 0 _ s

theorem exec_tTst (rs rd : LowReg) (s : State) :
    exec (.tTst rs rd) s = .next { s with cpsr := nzOf s.cpsr (s.reg (low rd) &&& s.reg (low rs)) } := by
  rw [← lowReg_eq_low, ← lowReg_eq_low]; exact tTest_eq .tst ..

/-- Settles O30: a logical instruction writes its result and N and Z, TST N and Z alone. -/
theorem thumbLogic : Obligations.ThumbLogic := fun s =>
  ⟨fun f => ⟨_, exec_tLogic f s, tWrite_spec (nzOf_flagsOnly ..) _ _ 0⟩, fun rs rd => exec_tTst rs rd s⟩

/-! ## Shifts -/

theorem logicFlags_flagsOnly (p : Cpsr) (r : Word) (sc : Bool) : p.FlagsOnly (logicFlags p r sc) := rfl

/-- A move of a shifter's result. -/
theorem aluMov_eq (a : Word) (x : Shifted) (p : Cpsr) : aluMov a x p = ⟨x.op2, logicFlags p x.op2 x.sc⟩ :=
  dpAlu_logic .mov a x p

theorem exec_tShiftImmInstr {t : Shift} {n : BitVec 5} {rs rd : LowReg} {i : Instr}
    (h : tShiftImmInstr t n rs rd = some i) (s : State) :
    let x := shiftImm t n (s.reg (low rs)) s.cpsr.c
    exec i s = .next (s.tWrite rd ⟨x.op2, logicFlags s.cpsr x.op2 x.sc⟩) := by
  dsimp only
  rw [← aluMov_eq 0, ← lowReg_eq_low]
  cases t with
  | lsl | lsr | asr => obtain rfl := Option.some.inj h; rfl
  | ror => cases h

theorem exec_tShiftRegInstr (t : Shift) (rs rd : LowReg) (s : State) :
    let x := shiftReg t (BitVec.ofNat 8 (s.reg (low rs)).toNat) (s.reg (low rd)) s.cpsr.c
    exec (tShiftRegInstr t rs rd) s =
      .next ((s.tWrite rd ⟨x.op2, logicFlags s.cpsr x.op2 x.sc⟩).internal 1) := by
  dsimp only
  rw [← aluMov_eq 0, BitVec.ofNat_toNat, ← lowReg_eq_low, ← lowReg_eq_low]
  cases t <;> rfl

/-- Settles O31: both kinds of shift write the shifter's result and its flags; the register one takes a cycle more. -/
theorem thumbShifts : Obligations.ThumbShifts := fun t _ rs rd s =>
  ⟨fun _ h => ⟨_, exec_tShiftImmInstr h s, tWrite_spec (logicFlags_flagsOnly ..) rd _ 0⟩,
    _, exec_tShiftRegInstr t rs rd s, tWrite_spec (logicFlags_flagsOnly ..) rd _ 1⟩

/-! ## High registers -/

theorem exec_tAddHi (h1 h2 : Bool) (rs rd : LowReg) (s : State) :
    exec (.tAddHi h1 h2 rs rd) s = .next (s.setReg (high h1 rd) (s.reg (high h1 rd) + s.reg (high h2 rs))) := by
  rw [← hiReg_eq_high, ← hiReg_eq_high]; rfl

theorem exec_tMovHi (h1 h2 : Bool) (rs rd : LowReg) (s : State) :
    exec (.tMovHi h1 h2 rs rd) s = .next (s.setReg (high h1 rd) (s.reg (high h2 rs))) := by
  rw [← hiReg_eq_high, ← hiReg_eq_high]; rfl

/-- What a register write does and leaves, R15 included. -/
theorem setReg_spec (s : State) (r : RegNo) (v : Word) :
    let t := s.setReg r v
    Writes s t r v ∧ t.cpsr = s.cpsr ∧ RegsBut s t [r] ∧ CpuOnly s t ∧ t.stepClocks = s.stepClocks :=
  ⟨setReg_writes s r v, setReg_cpsr .., setReg_regsBut s r v, setReg_cpuOnly .., setReg_stepClocks ..⟩

/-- Settles O32: both are one register write. -/
theorem thumbHigh : Obligations.ThumbHigh := fun h1 h2 rs rd s =>
  ⟨⟨_, exec_tAddHi h1 h2 rs rd s, setReg_spec s _ _⟩, _, exec_tMovHi h1 h2 rs rd s, setReg_spec s _ _⟩

/-! ## Address arithmetic -/

/-- The write of a register other than R15 changes the register file alone. -/
theorem setReg_regs_only {r : RegNo} (h : r ≠ 15#4) (s : State) (v : Word) :
    s.setReg r v = { s with regs := (s.setReg r v).regs } := by
  conv_lhs => rw [setReg_only, setReg_pc_ne v h, setReg_bubble_ne v h]

theorem setReg_register_spec {r : RegNo} (h : r ≠ 15#4) (s : State) (v : Word) :
    let t := s.setReg r v
    t.reg r = v ∧ RegsBut s t [r] ∧ t = { s with regs := t.regs } :=
  ⟨reg_setReg_same v h, setReg_regsBut s r v, setReg_regs_only h s v⟩

/-- Two zero bits below an offset multiply it by 4 (R435 to R438). -/
theorem scaledOffset_eq_ofNat {w : Nat} (k : BitVec w) : (k ++ 0#2).setWidth 32 = BitVec.ofNat 32 (4 * k.toNat) := by
  have hscale : (k ++ 0#2).toNat = 4 * k.toNat := by
    rw [BitVec.toNat_append, Nat.shiftLeft_eq]
    simp [Nat.mul_comm]
  rw [← BitVec.ofNat_toNat, hscale]

theorem exec_tAddPc (rd : LowReg) (k : BitVec 8) (s : State) :
    exec (.tAddPc rd k) s =
      .next (s.setReg (low rd) (BitVec.ofNat 32 (s.pc.toNat / 4 * 4 + 4 * k.toNat))) := by
  rw [BitVec.ofNat_add, ← alignWord_eq_ofNat, ← scaledOffset_eq_ofNat, ← reg_pc, ← lowReg_eq_low]; rfl

theorem exec_tAddSp (rd : LowReg) (k : BitVec 8) (s : State) :
    exec (.tAddSp rd k) s = .next (s.setReg (low rd) (s.reg 13#4 + BitVec.ofNat 32 (4 * k.toNat))) := by
  rw [← scaledOffset_eq_ofNat, ← lowReg_eq_low]; rfl

theorem exec_tAddSpImm (j : BitVec 7) (s : State) :
    exec (.tAddSpImm j) s = .next (s.setReg 13#4 (s.reg 13#4 + BitVec.ofNat 32 (4 * j.toNat))) := by
  rw [← scaledOffset_eq_ofNat]; rfl

theorem exec_tSubSpImm (j : BitVec 7) (s : State) :
    exec (.tSubSpImm j) s = .next (s.setReg 13#4 (s.reg 13#4 - BitVec.ofNat 32 (4 * j.toNat))) := by
  rw [← scaledOffset_eq_ofNat]; rfl

/-- Settles O33: the four forms are one write of a register other than R15. -/
theorem thumbAddress : Obligations.ThumbAddress := by
  intro rd k j s
  have hsp : 13#4 ≠ 15#4 := by decide
  exact ⟨⟨_, exec_tAddPc rd k s, setReg_register_spec (low_ne_pc rd) s _⟩,
    ⟨_, exec_tAddSp rd k s, setReg_register_spec (low_ne_pc rd) s _⟩,
    ⟨_, exec_tAddSpImm j s, setReg_register_spec hsp s _⟩,
    _, exec_tSubSpImm j s, setReg_register_spec hsp s _⟩

end Sys2Proof.Machine
end

section
/-! Proofs of the statements about 46_thumb_load_store.md (R460 to R484). A single transfer makes the access of its
ARM counterpart, and a load then writes Rd alone. Every multiple transfer is an ARM block transfer: the list of PUSH or POP
never names SP, so it makes no difference when SP is written. -/

namespace Sys2Proof.Machine

open Sys2Proof.Spec

/-! ## Offsets -/

/-- One zero bit below an offset doubles it (R461). -/
theorem doubledOffset_eq_ofNat {w : Nat} (k : BitVec w) : (k ++ 0#1).setWidth 32 = BitVec.ofNat 32 (2 * k.toNat) := by
  have hdouble : (k ++ 0#1).toNat = 2 * k.toNat := by
    rw [BitVec.toNat_append, Nat.shiftLeft_eq]
    simp [Nat.mul_comm]
  rw [← BitVec.ofNat_toNat, hdouble]

/-! ## Loads -/

/-- Every load form is one `tLoad` of its kind, register and address. -/
theorem exec_tLoad (f : TLoad) (s : State) :
    exec (f.form s).instr s = tLoad (f.form s).kind (f.form s).rd (f.form s).addr s := by
  unfold TLoad.form
  simp only [BitVec.ofNat_add, ← alignWord_eq_ofNat, ← scaledOffset_eq_ofNat, ← doubledOffset_eq_ofNat,
    BitVec.ofNat_toNat, ← lowReg_eq_low]
  cases f <;> rfl

/-- The access, then the write of Rd, with the operands as the statements name them. -/
theorem tLoad_eq (k : LoadKind) (rd : LowReg) (a : Word) (s : State) :
    tLoad k rd a s = .next (((s.loadAccess k a).setReg (low rd) (loaded s k a)).internal 1) := by
  rw [← loadValue_eq_loaded, ← lowReg_eq_low]; rfl

theorem tLoad_spec (s : State) (k : LoadKind) (rd : LowReg) (a v : Word) :
    let t := ((s.loadAccess k a).setReg (low rd) v).internal 1
    t.reg (low rd) = v ∧ t.cpsr = s.cpsr ∧ RegsBut s t [low rd] ∧ Stays s t ∧ LoadOnly s t ∧ LoadCost s t k a := by
  have hrd := low_ne_pc rd
  refine ⟨reg_setReg_same v hrd, (setReg_cpsr ..).trans (loadAccess_cpsr ..),
    (setReg_regsBut _ _ v).congr (loadAccess_cpsr ..).symm (loadAccess_regs ..).symm,
    ⟨(setReg_pc_ne v hrd).trans (loadAccess_pc ..), (setReg_bubble_ne v hrd).trans (loadAccess_bubble ..)⟩,
    ((loadAccess_loadOnly s k a).trans (setReg_loadOnly ..)).trans (internal_loadOnly ..), ?cost⟩
  case cost =>
    rw [loadAccess_eq_access]
    unfold LoadCost
    rw [← access_stepClocks]
    exact ⟨congrArg (· + 1) (setReg_stepClocks ..), setReg_busLast ..⟩

/-- Settles O34: every form is one `tLoad`. -/
theorem thumbLoads : Obligations.ThumbLoads := fun f s =>
  ⟨_, (exec_tLoad f s).trans (tLoad_eq ..), tLoad_spec s _ _ _ _⟩

/-! ## Stores -/

/-- Every store form is one `State.store` of its kind and address. -/
theorem exec_tStore (f : TStore) (s : State) :
    exec (f.form s).instr s = .next (s.store (f.form s).kind (f.form s).addr (s.reg (low (f.form s).rd))) := by
  unfold TStore.form
  simp only [← scaledOffset_eq_ofNat, ← doubledOffset_eq_ofNat, BitVec.ofNat_toNat, ← lowReg_eq_low]
  cases f <;> rfl

/-- Settles O35: every form is one `State.store`. -/
theorem thumbStores : Obligations.ThumbStores := fun f s hwf =>
  ⟨_, exec_tStore f s, store_storeOnly .., store_regs .., ⟨store_pc .., store_bubble ..⟩, store_stored hwf ..,
    (storeCost_iff ..).mpr (store_stepClocks ..)⟩

/-! ## The list of PUSH and POP -/

/-- Setting the bit of LR or R15 above those of the low registers adds it. -/
theorem stackList_eq_ofNat (R : Bool) {top : Nat} (h : 8 ≤ top) (l : BitVec 8) :
    stackList R top l = BitVec.ofNat 16 (l.toNat + if R then 2 ^ top else 0) := by
  cases R with
  | false => simp [stackList]
  | true =>
    have hl : l.toNat < 2 ^ top := l.isLt.trans_le (Nat.pow_le_pow_right (by decide) h)
    have hadd : l.toNat + 2 ^ top = l.toNat ||| 2 ^ top := by
      rw [Nat.add_comm, Nat.or_comm]
      simpa using Nat.two_pow_add_eq_or_of_lt hl 1
    have hbit : BitVec.twoPow 16 top = BitVec.ofNat 16 (2 ^ top) := BitVec.eq_of_toNat_eq (BitVec.toNat_twoPow ..)
    rw [if_pos rfl, hadd, BitVec.ofNat_or, ← hbit, BitVec.ofNat_toNat]; rfl

/-- Neither PUSH nor POP can name SP. -/
theorem moves_sp_stackList (R : Bool) {top : Nat} (h : 13 < top) (l : BitVec 8) :
    moves (stackList R top l) 13 = false := by
  have hbit : (stackList R top l).getLsbD 13 = false := by simp [stackList, h]
  unfold moves
  rw [hbit]; exact ite_self false

theorem ne_sp_of_mem_blockRegs {l : BitVec 16} (h : moves l 13 = false) {r : RegNo} (hr : r ∈ blockRegs l) :
    r ≠ 13#4 := by
  rw [blockRegs_eq] at hr
  obtain ⟨i, hi, rfl⟩ := List.mem_map.mp hr
  obtain ⟨h16, hm⟩ := mem_moved.mp hi
  intro h13
  obtain rfl := (ofNat_inj_of_lt h16 (by decide)).mp h13
  rw [h] at hm
  exact Bool.noConfusion hm

theorem fst_mem_of_mem_blockSlots {rs : List RegNo} {a : Word} {x : RegNo × Word} (h : x ∈ blockSlots rs a) :
    x.1 ∈ rs := by
  rw [← blockSlots_regs rs a]; exact List.mem_map_of_mem h

/-! ## PUSH and STMIA -/

theorem stmValue_of_ne_base (s : State) (w : Bool) {rn r : RegNo} (h : r ≠ rn) (lowest : RegNo) (final : Word) :
    s.stmValue false w rn lowest final r = s.storeValue r := by
  unfold State.stmValue
  rw [if_neg fun hr => h hr.1]; rfl

/-- PUSH is the decrement-before STM of SP (R480). -/
theorem tPush_eq_stm (s : State) {l : BitVec 16} (h : moves l 13 = false) :
    s.tPush l = s.stm true false false true 13#4 l := by
  have hvals : s.stmVals true false false true 13#4 l =
      (blockSlots (blockRegs l) (s.reg 13#4 - blockSize l)).map fun x => (x.1, x.2, s.storeValue x.1) :=
    List.map_congr_left fun x hx => by
      rw [stmValue_of_ne_base s _ (ne_sp_of_mem_blockRegs h (fst_mem_of_mem_blockSlots hx))]
  unfold State.tPush State.stm
  rw [hvals]; rfl

theorem pcPlus_thumb {s : State} (h : s.cpsr.t = true) : s.pcPlus = s.pc + 2 := by
  unfold State.pcPlus State.w; rw [h]; rfl

/-- Settles O36: PUSH and STMIA are one `State.stm` each. -/
theorem thumbPushStmia : Obligations.ThumbPushStmia := by
  intro s ht hwf
  rw [← pcPlus_thumb ht]
  refine ⟨fun R l => ⟨s.tPush (stackList R 14 l), rfl, ?push⟩, fun rb l => ⟨s.tStmia rb (l.setWidth 16), rfl, ?stmia⟩⟩
  case push =>
    rw [tPush_eq_stm s (moves_sp_stackList R (by decide) l), stackList_eq_ofNat R (by decide)]
    exact stm_stmEffect hwf ..
  case stmia =>
    rw [← lowReg_eq_low, BitVec.ofNat_toNat]
    exact stm_stmEffect hwf ..

/-! ## POP and LDMIA -/

theorem setRegIn_comm (s : State) {m : Mode} {r q : RegNo} (hr : r ≠ 15#4) (hq : q ≠ 15#4) (h : r ≠ q) (v w : Word) :
    (s.setRegIn m r v).setRegIn m q w = (s.setRegIn m q w).setRegIn m r v := by
  obtain ⟨i, hi⟩ := phys_some (m := m) hr
  obtain ⟨j, hj⟩ := phys_some (m := m) hq
  have hne : i.val ≠ j.val := fun e => h (phys_inj hi (hj.trans (congrArg some (Fin.ext e.symm))))
  simp only [setRegIn_of_phys _ hi, setRegIn_of_phys _ hj, Vector.set_comm _ _ hne]

theorem setReg_comm (s : State) {r q : RegNo} (hr : r ≠ 15#4) (hq : q ≠ 15#4) (h : r ≠ q) (v w : Word) :
    (s.setReg r v).setReg q w = (s.setReg q w).setReg r v := by
  unfold State.setReg
  rw [setRegIn_cpsr, setRegIn_cpsr]
  exact setRegIn_comm s hr hq h v w

theorem branch_setReg (s : State) {r : RegNo} (h : r ≠ 15#4) (a v : Word) :
    (s.branch a).setReg r v = (s.setReg r v).branch a := by
  obtain ⟨i, hi⟩ := phys_some (m := s.cpsr.mode) h
  have hbranch : phys (s.branch a).cpsr.mode r = some i := hi
  unfold State.setReg
  rw [setRegIn_of_phys v hi, setRegIn_of_phys v hbranch]; rfl

/-- A register that a block load does not name may be written before its registers or after them. -/
theorem blockSet_setReg (vals : List (RegNo × Word)) (s : State) {r : RegNo} (hr : r ≠ 15#4) (v : Word)
    (h : ∀ x ∈ vals, x.1 ≠ r) : (s.blockSet false vals).setReg r v = (s.setReg r v).blockSet false vals := by
  induction vals generalizing s with
  | nil => rfl
  | cons x rest ih =>
    have hrest : ∀ y ∈ rest, y.1 ≠ r := fun y hy => h y (List.mem_cons_of_mem x hy)
    rw [blockSet_cons, blockSet_cons]
    split
    · exact ih s hrest
    · next hx =>
      rw [ih _ hrest]
      exact congrArg (State.blockSet · false rest) (setReg_comm s hx hr (h x List.mem_cons_self) x.2 v)

theorem blockBranch_setReg (s : State) (vals : List (RegNo × Word)) {r : RegNo} (h : r ≠ 15#4) (v : Word) :
    (s.blockBranch false vals).setReg r v = (s.setReg r v).blockBranch false vals := by
  unfold State.blockBranch
  split
  · exact branch_setReg s h _ v
  · rfl

/-- POP is the increment-after LDM of SP (R481): it writes SP last, the LDM before the listed registers. -/
theorem tPop_eq_ldm (s : State) {l : BitVec 16} (h : moves l 13 = false) :
    s.tPop l = s.ldm false true false true 13#4 l := by
  have hsp : 13#4 ≠ 15#4 := by decide
  have hvals : ∀ x ∈ s.blockLoad (blockSlots (blockRegs l) (s.reg 13#4)), x.1 ≠ 13#4 := by
    intro x hx
    obtain ⟨y, hy, rfl⟩ := List.mem_map.mp hx
    exact ne_sp_of_mem_blockRegs h (fst_mem_of_mem_blockSlots (x := y) hy)
  unfold State.tPop
  dsimp only
  rw [blockBranch_setReg _ _ hsp, blockSet_setReg _ _ hsp _ hvals]; rfl

/-- Settles O37: POP and LDMIA are one `State.ldm` each. -/
theorem thumbPopLdmia : Obligations.ThumbPopLdmia := by
  intro s
  refine ⟨fun R l => ⟨s.tPop (stackList R 15 l), rfl, ?pop⟩, fun rb l => ⟨s.tLdmia rb (l.setWidth 16), rfl, ?ldmia⟩⟩
  case pop =>
    rw [tPop_eq_ldm s (moves_sp_stackList R (by decide) l), stackList_eq_ofNat R (by decide)]
    exact ldm_ldmEffect ..
  case ldmia =>
    rw [← lowReg_eq_low, BitVec.ofNat_toNat]
    exact ldm_ldmEffect ..

end Sys2Proof.Machine
end

section
/-! Proofs of the statements about 47_thumb_branch.md: the conditional branches and B (R500, R502), and the two halves of
BL (R504, R505). -/

namespace Sys2Proof.Machine

open Sys2Proof.Spec

/-! ## Offsets -/

/-- Zero bits below a signed offset scale it, and the word sum is the exact one modulo 2^32. -/
theorem add_signExtend_append_zero (a : Word) {w : Nat} (off : BitVec w) (k : Nat) :
    a + (off ++ 0#k).signExtend 32 = BitVec.ofInt 32 (a.toNat + 2 ^ k * off.toInt) := by
  have ha : BitVec.ofInt 32 a.toNat = a := by rw [BitVec.ofInt_natCast, BitVec.ofNat_toNat, BitVec.setWidth_eq]
  rw [BitVec.signExtend, BitVec.toInt_append_zero, BitVec.ofInt_add, ha]

/-! ## B -/

theorem exec_tBranchInstr {c : Cond} {off : BitVec 8} {i : Instr} (h : tBranchInstr c off = some i) (s : State) :
    exec i s = tBranchIf c off s := by
  cases c
  case al | nv => exact absurd h nofun
  all_goals obtain rfl := Option.some.inj h; rfl

theorem tBranchIf_passed {c : Cond} {s : State} (h : condPassed c s.cpsr = true) (off : BitVec 8) :
    tBranchIf c off s = .next (s.branch (BitVec.ofInt 32 (s.pc.toNat + 2 * off.toInt))) := by
  unfold tBranchIf
  rw [if_pos h, reg_pc, add_signExtend_append_zero]; rfl

theorem tBranchIf_failed {c : Cond} {s : State} (h : condPassed c s.cpsr = false) (off : BitVec 8) :
    tBranchIf c off s = .next s := by
  unfold tBranchIf
  rw [h, if_neg Bool.false_ne_true]

theorem exec_tB (off : BitVec 11) (s : State) :
    exec (.tB off) s = .next (s.branch (BitVec.ofInt 32 (s.pc.toNat + 2 * off.toInt))) := by
  show Host.Outcome.next (s.branch (s.reg 15#4 + (off ++ 0#1).signExtend 32)) = _
  rw [reg_pc, add_signExtend_append_zero]; rfl

/-- Settles O38: a taken branch is one `State.branch`, and one that is not taken is no change. -/
theorem thumbBranches : Obligations.ThumbBranches := by
  refine ⟨fun c off i s hi => ?_, fun off s => ⟨_, exec_tB off s, branch_only _ _, branch_jumps _ _⟩⟩
  rw [exec_tBranchInstr hi]
  exact ⟨fun hc => ⟨_, tBranchIf_passed hc off, branch_only _ _, branch_jumps _ _⟩,
    fun hc => tBranchIf_failed hc off⟩

/-! ## BL -/

theorem exec_tBlPrefix (off : BitVec 11) (s : State) :
    exec (.tBlPrefix off) s = .next (s.setReg 14#4 (BitVec.ofInt 32 (s.pc.toNat + 4096 * off.toInt))) := by
  show Host.Outcome.next (s.setReg 14#4 (s.reg 15#4 + (off ++ 0#12).signExtend 32)) = _
  rw [reg_pc, add_signExtend_append_zero]; rfl

theorem exec_tBlSuffix (off : BitVec 11) (s : State) :
    exec (.tBlSuffix off) s =
      .next ((s.setReg 14#4 ((s.pc - 2) ||| 1)).branch (s.reg 14#4 + BitVec.ofNat 32 (2 * off.toNat))) := by
  rw [← reg_pc s, ← doubledOffset_eq_ofNat]; rfl

/-- The two offsets together are the signed 22-bit one: the upper half counts 2048 for each one of the lower. -/
theorem blTarget_eq (a : Word) (hi lo : BitVec 11) :
    BitVec.ofInt 32 (a.toNat + 4096 * hi.toInt) + BitVec.ofNat 32 (2 * lo.toNat) =
      BitVec.ofInt 32 (a.toNat + 2 * (hi ++ lo).toInt) := by
  have hjoin : (hi ++ lo).toInt = 2 ^ 11 * hi.toInt + lo.toNat := BitVec.toInt_append
  rw [← BitVec.ofInt_natCast, ← BitVec.ofInt_add, hjoin]
  congr 1
  push_cast
  ring

/-- A register other than R15 does not see `pc` move on. -/
theorem reg_moved {r : RegNo} (h : r ≠ 15#4) (s : State) (a : Word) :
    ({ s with pc := a } : State).reg r = s.reg r :=
  regIn_congr h rfl

theorem branch_jumps_of_eq (s : State) {a b : Word} (h : a = b) : Jumps (s.branch a) b := h ▸ branch_jumps s a

/-- Settles O39: the first half is a write of LR, the second a branch after another. -/
theorem thumbBlPair : Obligations.ThumbBlPair := by
  intro offHi offLo s _
  have h14 : 14#4 ≠ 15#4 := by decide
  refine ⟨⟨_, exec_tBlPrefix offHi s, reg_setReg_same _ h14, setReg_regsBut s _ _, setReg_regs_only h14 s _⟩,
    ⟨_, exec_tBlSuffix offLo s, branch_jumps _ _, ?link, setReg_regsBut s _ _, ?only⟩,
    _, _, exec_tBlPrefix offHi s, exec_tBlSuffix offLo _, ?jumps, ?pairLink⟩
  case link => rw [reg_branch h14, reg_setReg_same _ h14]
  case only => rw [branch_only, setReg_only]
  case jumps =>
    refine branch_jumps_of_eq _ (.trans ?_ (blTarget_eq ..))
    rw [reg_moved h14, reg_setReg_same _ h14]
  case pairLink =>
    rw [reg_branch h14, reg_setReg_same _ h14, setReg_pc_ne _ h14, BitVec.add_sub_cancel]

end Sys2Proof.Machine
end

section
/-! Proofs of the statements about 60_exceptions.md, first part: exception entry and return (R603 to R617), the order of
the dispatch (R607, R650, R654, R655), and what User mode cannot do (R621, R622). -/

namespace Sys2Proof.Machine

open Sys2Proof.Spec

/-! ## Entry and return -/

/-- Settles O22: the entry by the rule for it, which leaves the clocks of the step alone. -/
theorem exceptionEntry : Obligations.ExceptionEntry := fun s e lr =>
  ⟨enterException_enters s e lr, enterException_stepClocks s e lr⟩

theorem savedWord_flags_bits (p : Cpsr) :
    (savedWord p).flags.getLsbD 3 = p.n ∧ (savedWord p).flags.getLsbD 2 = p.z ∧
      (savedWord p).flags.getLsbD 1 = p.c ∧ (savedWord p).flags.getLsbD 0 = p.v := by
  have key : ∀ n z c v : Bool, let x := BitVec.ofBool n ++ BitVec.ofBool z ++ BitVec.ofBool c ++ BitVec.ofBool v
      x.getLsbD 3 = n ∧ x.getLsbD 2 = z ∧ x.getLsbD 1 = c ∧ x.getLsbD 0 = v := by decide
  exact key p.n p.z p.c p.v

theorem savedWord_ctrl_bits (p : Cpsr) :
    (savedWord p).ctrl.getLsbD 7 = p.i ∧ (savedWord p).ctrl.getLsbD 6 = p.f ∧
      (savedWord p).ctrl.getLsbD 5 = p.t ∧ (savedWord p).ctrl.extractLsb' 0 5 = p.mode.code := by
  have key : ∀ (i f t : Bool) (m : BitVec 5), let x := BitVec.ofBool i ++ BitVec.ofBool f ++ BitVec.ofBool t ++ m
      x.getLsbD 7 = i ∧ x.getLsbD 6 = f ∧ x.getLsbD 5 = t ∧ x.extractLsb' 0 5 = m := by decide
  exact key p.i p.f p.t p.mode.code

/-- A saved status word restores every field of the CPSR it was saved from, whatever stands there meanwhile (R615). -/
theorem Cpsr.restore_savedWord (old p : Cpsr) : old.restore (savedWord p) = p := by
  obtain ⟨hn, hz, hc, hv⟩ := savedWord_flags_bits p
  obtain ⟨hi, hf, ht, hm⟩ := savedWord_ctrl_bits p
  unfold Cpsr.restore
  rw [hn, hz, hc, hv, hi, hf, ht, hm, Mode.ofCode_code]; rfl

/-- The return from a SWI handler is one branch to the link, in the status of the caller. -/
theorem exec_movs_pc_link {s : State} {p : Cpsr} (h : s.spsr.get? s.cpsr.mode = some (savedWord p)) :
    exec (.movShiftImm .al true 0#4 15#4 0#5 .lsl 14#4) s =
      .next (({ s with cpsr := p } : State).branch (s.reg 14#4)) := by
  have hexec : exec (.movShiftImm .al true 0#4 15#4 0#5 .lsl 14#4) s =
      .next (s.dpWrite true 15#4 (aluMov (s.reg 0#4) (shiftImm .lsl 0#5 (s.reg 14#4) s.cpsr.c) s.cpsr)) :=
    dpShiftImm_passed (c := .al) (s := s) rfl aluMov true 0#4 15#4 0#5 .lsl 14#4
  rw [hexec, dpWrite_pc, if_pos rfl, restoreCpsr_some h, Cpsr.restore_savedWord]; rfl

/-- Settles O23: the entry saves the caller's status and the next address, and the return takes both back. -/
theorem swiRoundTrip : Obligations.SwiRoundTrip := by
  intro i s hi _ hc
  obtain ⟨-, hlink, hregs, hsaved, -⟩ := raiseSwi_enters s
  have hmode : s.raiseSwi.cpsr.mode = .svc := by unfold State.raiseSwi; rw [enterException_cpsr]; rfl
  refine ⟨_, _, exec_swiInstr hc hi, exec_movs_pc_link (p := s.cpsr) (by rw [hmode, hsaved]), rfl, ?jumps,
    fun p hp => hregs p hp, ?spsr, ?mem⟩
  case jumps => rw [hlink]; exact branch_jumps _ _
  case spsr => rw [branch_spsr]; unfold State.raiseSwi; rw [enterException_spsr]; rfl
  case mem => rw [branch_mem]; exact enterException_mem ..

/-! ## The dispatch -/

theorem irqOrInstr_of_taken {s : State} (h : IrqRaised s) (hi : s.cpsr.i = false) :
    irqOrInstr s = .next s.enterIrq := by
  unfold irqOrInstr
  rw [(irqLine_iff_irqRaised s).mpr h, hi]; rfl

theorem enterIrq_enters (s : State) :
    Enters s s.enterIrq .irq 0x18 (s.pc - (width s + width s) + 4) s.cpsr.f := by
  have h := enterException_enters s .irq (s.pc - (width s + width s) + 4)
  rwa [decide_eq_false nofun, Bool.or_false] at h

/-- Settles O43: at the CPU's turn the interrupt test comes before the instruction. -/
theorem irqEntry : Obligations.IrqEntry := fun s hturn hraised hi =>
  ⟨_, (step_cpuTurn hturn).trans (irqOrInstr_of_taken (s := { s with halted := false }) hraised hi),
    enterIrq_enters { s with halted := false }, enterException_stepClocks ..⟩

theorem step_of_none_due {s : State} (h : ∀ x ∈ s.env, s.clock < x.1) : step s = dispatchRest s :=
  congrArg dispatchRest (deliverEnv_of_none_due h)

/-- A machine in HALT with no enabled request only lets a clock pass (R654). -/
theorem haltOrRun_of_asleep {s : State} (hh : s.halted = true) (hp : s.irq.pending = 0) :
    haltOrRun s = .next (s.charge 1) := by
  unfold haltOrRun State.haltWake haltWakeUnder
  rw [hh, hp]; rfl

/-- Settles O44: STOP, an armed channel and HALT are the cases of the dispatch in their order. -/
theorem haltAndStop : Obligations.HaltAndStop := by
  intro s henv
  rw [step_of_none_due henv]
  unfold dispatchRest
  refine ⟨fun hstop => by rw [hstop]; rfl, fun n hstop harm => by rw [hstop, harm]; rfl, ?halt⟩
  case halt =>
    intro hstop harm hb hhalt hp
    rw [hstop, harm, hb]
    exact haltOrRun_of_asleep hhalt hp

/-! ## User mode -/

theorem Cpsr.FlagsOnly.i {p q : Cpsr} (h : p.FlagsOnly q) : q.i = p.i := (congrArg Cpsr.i h).trans rfl

theorem Cpsr.FlagsOnly.f {p q : Cpsr} (h : p.FlagsOnly q) : q.f = p.f := (congrArg Cpsr.f h).trans rfl

/-- In User mode an MSR reaches the flags only (R281, R621). -/
theorem Cpsr.msr_flagsOnly {p : Cpsr} (h : p.mode = .user) (f : BitVec 4) (op : Word) : p.FlagsOnly (p.msr f op) := by
  rw [Cpsr.msr_eq, h]
  simp [Cpsr.FlagsOnly, h]

theorem Work.spsr {i : Instr} {s t : State} (h : Work i s t) : t.spsr = s.spsr := by
  induction h with
  | start => rfl
  | setReg _ r v ih => rwa [setReg_spsr]
  | setUserReg _ _ r v ih => rwa [setUserReg_spsr]
  | branch _ a ih => exact ih
  | flags _ hp ih => exact ih
  | access _ g a w k ih => exact ih
  | store _ k a v ih => rwa [store_spsr]

/-- User mode stays, and all that only a privileged mode may change is unchanged. -/
def StaysUser (s t : State) : Prop :=
  t.cpsr.mode = .user ∧ t.cpsr.i = s.cpsr.i ∧ t.cpsr.f = s.cpsr.f ∧ t.spsr = s.spsr ∧
    ∀ p : Fin 30, (∀ r : RegNo, phys .user r ≠ some p) → t.regs[p] = s.regs[p]

/-- A trap instruction has entered its exception. -/
def Trapped (i : Instr) (t : State) : Prop :=
  (swiInstr i = true ∧ t.cpsr.mode = .svc ∧ t.pc = 0x08 ∨
    undefinedInstr i = true ∧ t.cpsr.mode = .und ∧ t.pc = 0x04) ∧
    t.cpsr.i = true ∧ t.cpsr.t = false

theorem Work.staysUser {i : Instr} {s t : State} (h : Work i s t) (hu : s.cpsr.mode = .user) : StaysUser s t :=
  ⟨h.flagsOnly.mode.trans hu, h.flagsOnly.i, h.flagsOnly.f, h.spsr,
    fun _ hp => h.regs_other (hu ▸ hp) fun _ => hp⟩

/-- In User mode there is no SPSR to return from or to write, so apart from a trap nothing is left but an instruction's
ordinary work and a change of the instruction set (R49, R616). -/
theorem Effect.confined {i : Instr} {s t : State} (h : Effect i s t) (hu : s.cpsr.mode = .user) :
    StaysUser s t ∨ Trapped i t := by
  induction h with
  | work h => exact .inl (h.staysUser hu)
  | @restore t h a =>
    have hnone : t.spsr.get? t.cpsr.mode = none := by rw [h.flagsOnly.mode, hu]; rfl
    rw [restoreCpsr_none hnone]
    exact .inl ((h.branch a).staysUser hu)
  | msr R f op =>
    cases R with
    | true => rw [msrWrite_none (by rw [hu]; rfl)]; exact .inl ((Work.start (i := i)).staysUser hu)
    | false => exact .inl (((Work.start (i := i)).flags (Cpsr.msr_flagsOnly hu f op)).staysUser hu)
  | exchange v => exact .inl ⟨hu, rfl, rfl, rfl, fun _ _ => rfl⟩
  | swi hi =>
    have hcpsr : s.raiseSwi.cpsr = _ := enterException_cpsr ..
    exact .inr ⟨.inl ⟨hi, congrArg Cpsr.mode hcpsr, enterException_pc ..⟩,
      congrArg Cpsr.i hcpsr, congrArg Cpsr.t hcpsr⟩
  | undefined hi =>
    have hcpsr : s.raiseUndefined.cpsr = _ := enterException_cpsr ..
    exact .inr ⟨.inr ⟨hi, congrArg Cpsr.mode hcpsr, enterException_pc ..⟩,
      congrArg Cpsr.i hcpsr, congrArg Cpsr.t hcpsr⟩
  | internal _ k ih => exact ih

/-- Settles O49: by what an instruction can do. -/
theorem userModeConfined : Obligations.UserModeConfined := by
  intro i s t hu ht
  obtain ⟨t', ht', heff⟩ := exec_does i s
  obtain rfl : t' = t := Host.Outcome.next.inj (ht'.symm.trans ht)
  exact heff.confined hu

end Sys2Proof.Machine
end

section
/-! Proofs of the statements about 60_exceptions.md, second part: what the block's registers read, and what writes to
them do (R700 to R714, R761 to R763). The registers lie one after the other, so an access inside one of them concerns
that one alone. -/

namespace Sys2Proof.Machine

open Sys2Proof.Spec

/-! ## Where the registers lie -/

theorem IoReg.mem_all (r : IoReg) : r ∈ IoReg.all := by
  cases r
  case dmaSad n | dmaDad n | dmaCntL n | dmaCntH n | tmCntL n | tmCntH n => revert n; decide
  all_goals decide

/-- The list of the registers rises by address, and no two of them overlap (R700). -/
theorem IoReg.all_pairwise : IoReg.all.Pairwise fun q r => q.base + q.bytes ≤ r.base := by decide

theorem IoReg.covers_iff (r : IoReg) (a : Nat) : r.covers a = true ↔ r.base ≤ a ∧ a < r.base + r.bytes := by
  unfold IoReg.covers
  rw [Bool.and_eq_true, decide_eq_true_iff, decide_eq_true_iff]

/-- The list around one register: those before it end below it, those after it begin above it. -/
theorem IoReg.all_split (r : IoReg) : ∃ l l' : List IoReg, IoReg.all = l ++ r :: l' ∧
    (∀ q ∈ l, q.base + q.bytes ≤ r.base) ∧ ∀ q ∈ l', r.base + r.bytes ≤ q.base := by
  obtain ⟨l, l', hl⟩ := List.append_of_mem r.mem_all
  have h := IoReg.all_pairwise
  rw [hl, List.pairwise_append, List.pairwise_cons] at h
  obtain ⟨-, ⟨hafter, -⟩, hbefore⟩ := h
  exact ⟨l, l', hl, fun q hq => hbefore q hq r List.mem_cons_self, hafter⟩

/-- The register that holds a byte is the one that covers it (R701). -/
theorem ioAt_of_covers {r : IoReg} {a : Nat} (h : r.covers a = true) : ioAt a = some r := by
  obtain ⟨l, l', hl, hbefore, -⟩ := r.all_split
  refine List.find?_eq_some_iff_append.mpr ⟨h, l, l', hl, fun q hq => ?_⟩
  have hq' := hbefore q hq
  rw [IoReg.covers_iff] at h
  rw [Bool.not_eq_true', ← Bool.not_eq_true, IoReg.covers_iff]
  omega

/-- Every register lies below the top of the address space. -/
theorem IoReg.base_lt (r : IoReg) : r.base + 4 < 2 ^ 32 := by
  cases r <;> simp only [IoReg.base] <;> omega

theorem IoReg.toNat_base (r : IoReg) : (BitVec.ofNat 32 r.base).toNat = r.base := by
  have := r.base_lt
  rw [BitVec.toNat_ofNat, Nat.mod_eq_of_lt (by omega)]

/-! ## Reads -/

/-- Byte `j` of a register reads as that byte of its value (R703). -/
theorem byteAt_ioReg {r : IoReg} (s : State) {j : Nat} (h : j < r.bytes) :
    s.byteAt (r.base + j) = byteOf (r.readValue s) j := by
  unfold State.byteAt
  rw [ioAt_of_covers ((r.covers_iff _).mpr ⟨by omega, by omega⟩)]
  show (r.readValue s >>> (8 * (r.base + j - r.base))).setWidth 8 = _
  rw [Nat.add_sub_cancel_left]; rfl

theorem read8_ioReg (s : State) (r : IoReg) (h : r.bytes = 1 := by rfl) :
    s.read8 (BitVec.ofNat 32 r.base) = byteOf (r.readValue s) 0 := by
  unfold State.read8
  rw [r.toNat_base]
  exact byteAt_ioReg s (j := 0) (by omega)

theorem read16_ioReg (s : State) (r : IoReg) (h : r.bytes = 2 := by rfl) :
    s.read16 (BitVec.ofNat 32 r.base) = (r.readValue s).setWidth 16 := by
  have h0 : s.byteAt r.base = byteOf (r.readValue s) 0 := byteAt_ioReg s (j := 0) (by omega)
  unfold State.read16
  rw [r.toNat_base, byteAt_ioReg s (by omega), h0, byteOf_append_byteOf]
  exact (BitVec.setWidth_eq_extractLsb' (by decide)).symm

theorem read32_ioReg (s : State) (r : IoReg) (h : r.bytes = 4 := by rfl) :
    s.read32 (BitVec.ofNat 32 r.base) = r.readValue s := by
  have h0 : s.byteAt r.base = byteOf (r.readValue s) 0 := byteAt_ioReg s (j := 0) (by omega)
  unfold State.read32
  rw [r.toNat_base, byteAt_ioReg s (by omega), byteAt_ioReg s (by omega), byteAt_ioReg s (by omega), h0,
    byteOf_append_all]

theorem setWidth_setWidth_half (x : Half) : (x.setWidth 32).setWidth 16 = x := by simp

/-- TMnCNT_H field by field (R762). -/
theorem Timer.ctl_fields (t : Timer) :
    t.ctl.extractLsb' 0 2 = t.prescale ∧ t.ctl.getLsbD 2 = t.cascade ∧ t.ctl.extractLsb' 3 3 = 0 ∧
      t.ctl.getLsbD 6 = t.irqOnOverflow ∧ t.ctl.getLsbD 7 = t.enabled ∧ t.ctl.extractLsb' 8 8 = 0 := by
  have key : ∀ (e q c : Bool) (p : BitVec 2),
      let x := (0 : BitVec 8) ++ BitVec.ofBool e ++ BitVec.ofBool q ++ (0 : BitVec 3) ++ BitVec.ofBool c ++ p
      x.extractLsb' 0 2 = p ∧ x.getLsbD 2 = c ∧ x.extractLsb' 3 3 = 0 ∧ x.getLsbD 6 = q ∧ x.getLsbD 7 = e ∧
        x.extractLsb' 8 8 = 0 := by decide
  exact key t.enabled t.irqOnOverflow t.cascade t.prescale

/-- Settles O52: every address is that of a register, which reads as its rule says. -/
theorem ioReads : Obligations.IoReads := by
  intro s
  refine ⟨(read16_ioReg s .ie).trans ?_, (read16_ioReg s .ifl).trans ?_, (read16_ioReg s .ime).trans ?_,
    read16_ioReg s .imeHi, read8_ioReg s .haltcnt, fun n => ⟨(read16_ioReg s (.tmCntL n)).trans ?_, ?_,
    (read16_ioReg s (.dmaCntH n)).trans ?_, read32_ioReg s (.dmaSad n), read32_ioReg s (.dmaDad n),
    read16_ioReg s (.dmaCntL n)⟩⟩
  · exact BitVec.setWidth_setWidth_of_le _ (by decide)
  · exact BitVec.setWidth_setWidth_of_le _ (by decide)
  · unfold IoReg.readValue; cases s.irq.ime <;> rfl
  · exact setWidth_setWidth_half _
  · have h : s.read16 (BitVec.ofNat 32 (0x04000102 + 4 * n.val)) = (s.timers.get n).ctl :=
      (read16_ioReg s (.tmCntH n)).trans (setWidth_setWidth_half _)
    rw [h]
    exact Timer.ctl_fields _
  · exact setWidth_setWidth_half _

/-! ## Writes -/

theorem IoReg.lanes_of_apart {q : IoReg} {a k : Nat} (h : q.base + q.bytes ≤ a ∨ a + k ≤ q.base) :
    q.lanes a k = 0 := by
  have hlane (j : Nat) : ¬(j < q.bytes ∧ a ≤ q.base + j ∧ q.base + j < a + k) := by omega
  unfold IoReg.lanes
  simp only [if_neg (hlane _)]
  rfl

theorem foldl_writeLanes_of_apart {l : List IoReg} {a k : Nat} (v : Word) (s : State)
    (h : ∀ q ∈ l, q.base + q.bytes ≤ a ∨ a + k ≤ q.base) :
    l.foldl (fun s r => r.writeLanes a k v s) s = s := by
  induction l with
  | nil => rfl
  | cons q l ih =>
    have hq : q.writeLanes a k v s = s := if_pos (IoReg.lanes_of_apart (h q List.mem_cons_self))
    rw [List.foldl_cons, hq]
    exact ih fun r hr => h r (List.mem_cons_of_mem q hr)

section Within

variable {r : IoReg} {a k : Nat} (hlo : r.base ≤ a) (hhi : a + k ≤ r.base + r.bytes)
include hlo hhi

/-- A write inside one register is a write of that register's lanes and no more (R702). -/
theorem ioWrite_within (v : Word) (s : State) : s.ioWrite a k v = r.writeLanes a k v s := by
  obtain ⟨l, l', hl, hbefore, hafter⟩ := r.all_split
  have hb (q : IoReg) (hq : q ∈ l) : q.base + q.bytes ≤ a ∨ a + k ≤ q.base := .inl ((hbefore q hq).trans hlo)
  have ha (q : IoReg) (hq : q ∈ l') : q.base + q.bytes ≤ a ∨ a + k ≤ q.base := .inr (hhi.trans (hafter q hq))
  unfold State.ioWrite
  rw [hl, List.foldl_append, foldl_writeLanes_of_apart v s hb, List.foldl_cons, foldl_writeLanes_of_apart v _ ha]

/-- None of its bytes goes to memory (R701). -/
theorem memLanes_within (m : List Host.Cell) (v : Word) {j : Nat} (hj : j ≤ k) : memLanes m a v j = m := by
  induction j with
  | zero => rfl
  | succ j ih =>
    have hio : isIo (a + j) = true := isIo_of_covers ((r.covers_iff _).mpr ⟨by omega, by omega⟩) r.mem_all
    unfold memLanes memLane
    rw [if_pos hio, ih (by omega)]

end Within

theorem memWrite_within {r : IoReg} {a : Word} {w : Width} (hlo : r.base ≤ a.toNat)
    (hhi : a.toNat + w.bytes ≤ r.base + r.bytes) (s : State) (v : Word) :
    SameDevices (s.memWrite a w v) (r.writeLanes a.toNat w.bytes v s) ∧ (s.memWrite a w v).mem = s.mem := by
  have haccess : SameDevices (s.access .cpu a w .write) s := .refl s
  unfold State.memWrite
  refine ⟨?_, ?_⟩
  · rw [← ioWrite_within hlo hhi]
    exact (writeBytes_sameDevices ..).trans (haccess.ioWrite ..)
  · rw [writeBytes_mem, memLanes_within hlo hhi _ _ le_rfl, access_mem]

theorem setWidth_congr {n : Nat} {x y : Word} (h : ∀ i < n, x.getLsbD i = y.getLsbD i) :
    x.setWidth n = y.setWidth n := by
  refine BitVec.eq_of_getLsbD_eq fun i hi => ?_
  rw [BitVec.getLsbD_setWidth, BitVec.getLsbD_setWidth, h i hi]

/-- A register's write action looks at the bits the register has, and at no others. -/
theorem IoReg.write_congr {r : IoReg} {new ones v : Word} (s : State)
    (hnew : ∀ i < 8 * r.bytes, new.getLsbD i = v.getLsbD i)
    (hones : ∀ i < 8 * r.bytes, ones.getLsbD i = v.getLsbD i) :
    r.write s new ones = r.write s v v := by
  cases r with
  | dmaSad n | dmaDad n => rw [BitVec.eq_of_getLsbD_eq fun i hi => hnew i hi]; rfl
  | dmaCntL n | dmaCntH n | tmCntL n | tmCntH n =>
    have h : new.setWidth 16 = v.setWidth 16 := setWidth_congr hnew
    unfold IoReg.write
    rw [h]
  | ie => exact congrArg s.writeEnable (setWidth_congr fun i hi => hnew i (hi.trans (by decide)))
  | ifl => exact congrArg s.acknowledge (setWidth_congr fun i hi => hones i (hi.trans (by decide)))
  | ime => exact congrArg s.writeMasterEnable (hnew 0 (by decide))
  | imeHi => rfl
  | haltcnt =>
    unfold IoReg.write
    rw [hnew 7 (by decide)]

theorem IoReg.bytes_cases (r : IoReg) : r.bytes = 1 ∨ r.bytes = 2 ∨ r.bytes = 4 := by
  cases r <;> simp [IoReg.bytes]

/-- An access of just a register's bytes covers all its lanes. -/
theorem IoReg.lanes_self {r : IoReg} {i : Nat} (h : i < 8 * r.bytes) : (r.lanes r.base r.bytes).getLsbD i = true := by
  have hlane (j : Nat) : (j < r.bytes ∧ r.base ≤ r.base + j ∧ r.base + j < r.base + r.bytes) ↔
      j < r.bytes := by omega
  unfold IoReg.lanes
  simp only [hlane]
  rcases r.bytes_cases with hb | hb | hb <;> rw [hb] at h ⊢ <;> revert i <;> decide

/-- Where the lane mask has a bit, the merged value has the written one (R702). -/
theorem getLsbD_merge {m : Word} {i : Nat} (h : m.getLsbD i = true) (old v : Word) :
    ((old &&& ~~~m) ||| (v &&& m)).getLsbD i = v.getLsbD i := by
  rw [BitVec.getLsbD_or, BitVec.getLsbD_and, BitVec.getLsbD_and, BitVec.getLsbD_not, h]
  simp

theorem IoReg.place_base (r : IoReg) (v : Word) : r.place r.base v = v := by simp [IoReg.place]

/-- A write of a whole register replaces what it holds (R702). -/
theorem memWrite_whole (r : IoReg) {w : Width} (s : State) (v : Word) (h : w.bytes = r.bytes := by rfl) :
    SameDevices (s.memWrite (BitVec.ofNat 32 r.base) w v) (r.write s v v) ∧
      (s.memWrite (BitVec.ofNat 32 r.base) w v).mem = s.mem := by
  have hmask : r.lanes r.base r.bytes ≠ 0 := by
    intro h0
    have hbit := r.lanes_self (i := 0) (by have := r.bytes_cases; omega)
    rw [h0] at hbit
    exact absurd hbit (by decide)
  have hwhole : r.writeLanes r.base r.bytes v s = r.write s v v := by
    unfold IoReg.writeLanes
    rw [r.place_base]
    refine (if_neg hmask).trans (r.write_congr s (fun i hi => getLsbD_merge (r.lanes_self hi) _ _) fun i hi => ?_)
    rw [BitVec.getLsbD_and, r.lanes_self hi, Bool.and_true]
  have key := memWrite_within (r := r) (a := BitVec.ofNat 32 r.base) (w := w) (by rw [r.toNat_base])
    (by rw [r.toNat_base, h]) s v
  rwa [r.toNat_base, h, hwhole] at key

theorem setWidth_half_setWidth_mask (v : Word) : (v.setWidth 16).setWidth 14 = v.setWidth 14 :=
  BitVec.setWidth_setWidth_of_le _ (by decide)

/-- HALTCNT decides by its top bit, HALT by the requests alone (R653, R655). -/
theorem write_haltcnt (s : State) (v : Word) :
    IoReg.haltcnt.write s v v =
      if v.getLsbD 7 then { s with stopped := true }
      else if s.irq.ie &&& s.irq.ifl ≠ 0 then s else { s with halted := true } := by
  have hwake : s.haltWake = decide (s.irq.ie &&& s.irq.ifl ≠ 0) := by
    show (s.irq.ie &&& s.irq.ifl != 0 && (s.irq.ime || true)) = _
    rw [Bool.or_true, Bool.and_true, Bool.eq_iff_iff, bne_iff_ne, decide_eq_true_iff]
  have hhalt : s.haltOp = if s.irq.ie &&& s.irq.ifl ≠ 0 then s else { s with halted := true } := by
    unfold State.haltOp
    rw [hwake]
    simp only [decide_eq_true_eq]
  unfold IoReg.write
  rw [hhalt]; rfl

/-- A byte written to the upper lane of IE (R702, R704). -/
theorem writeLanes_ie_upper (s : State) (v : Word) :
    IoReg.ie.writeLanes 0x04000201 1 v s =
      { s with irq := { s.irq with ie := v.extractLsb' 0 6 ++ s.irq.ie.extractLsb' 0 8 } } := by
  have hmask : IoReg.ie.lanes 0x04000201 1 = 0xFF00 := by decide
  have hplace : IoReg.ie.place 0x04000201 v = v <<< 8 := rfl
  have hnew : ((s.irq.ie.setWidth 32 &&& ~~~(0xFF00 : Word)) ||| (v <<< 8 &&& 0xFF00)).setWidth 14 =
      v.extractLsb' 0 6 ++ s.irq.ie.extractLsb' 0 8 := by
    refine BitVec.eq_of_getLsbD_eq fun i hi => .trans ?_ (BitVec.getLsbD_append ..).symm
    interval_cases i <;> simp
  unfold IoReg.writeLanes
  rw [hmask, hplace]
  exact congrArg s.writeEnable hnew

/-- Settles O53: each address is that of a register, whose write action is the one its rule states. -/
theorem ioWrites : Obligations.IoWrites := by
  intro s v
  dsimp only
  refine ⟨?ie, ?ieUpper, ?ifl, ?ime, ?halt,
    fun n => ⟨memWrite_whole (.dmaSad n) s v, memWrite_whole (.dmaDad n) s v,
    memWrite_whole (.dmaCntL n) s v, memWrite_whole (.tmCntL n) s v, memWrite_whole (.tmCntH n) s v⟩⟩
  case ie => rw [setWidth_half_setWidth_mask]; exact memWrite_whole .ie s v
  case ieUpper =>
    rw [← writeLanes_ie_upper]
    exact memWrite_within (r := .ie) (a := 0x04000201) (w := .byte) (by decide) (by decide) s v
  case ifl => rw [setWidth_half_setWidth_mask]; exact memWrite_whole .ifl s v
  case ime => exact memWrite_whole .ime s v
  case halt => rw [← write_haltcnt]; exact memWrite_whole .haltcnt s v

end Sys2Proof.Machine
end

section
/-! Proofs of the statements about 60_exceptions.md, third part: DMA (R714, R730, R731, R740 to R748). Every operation on
the channels is a change of one channel, and then maybe arbitration. -/

namespace Sys2Proof.Machine

open Sys2Proof.Spec

/-! ## Arbitration -/

theorem dmaTypeBit_eq_typeBit (n : Fin 4) (t : BitVec 2) : dmaTypeBit n t = typeBit n t := by
  revert n t; decide

theorem DmaChannel.ready_iff (c : DmaChannel) : c.ready = true ↔ c.enabledMask &&& c.pendingMask ≠ 0 := bne_iff_ne

theorem DmaChannel.ready_eq_false_iff (c : DmaChannel) : c.ready = false ↔ c.enabledMask &&& c.pendingMask = 0 := by
  rw [← Bool.not_eq_true, c.ready_iff, not_not]

/-- The winner is the lowest-numbered ready channel (R741, R743). -/
theorem dmaWinner_eq_some_iff (q : Quad DmaChannel) (n : Fin 4) :
    dmaWinner q = some n ↔ (q.get n).ready = true ∧ ∀ m < n, (q.get m).ready = false := by
  have key : ∀ r : Fin 4 → Bool,
      (if r 0 then some (0 : Fin 4) else if r 1 then some 1 else if r 2 then some 2
        else if r 3 then some 3 else none) = some n ↔
        r n = true ∧ ∀ m < n, r m = false := by revert n; decide
  exact key fun m => (q.get m).ready

theorem arbitrated_of_armed {t : State} (h : t.armed = dmaWinner t.dma) : Arbitrated t := by
  intro n
  rw [h, dmaWinner_eq_some_iff, DmaChannel.ready_iff]
  simp only [DmaChannel.ready_eq_false_iff]

theorem arbitrate_arbitrated (s : State) : Arbitrated s.arbitrate := arbitrated_of_armed rfl

/-! ## Triggers -/

theorem setDma_dma_same (s : State) (n : Fin 4) (c : DmaChannel) : (s.setDma n c).dma.get n = c :=
  (Quad.get_set ..).trans (if_pos rfl)

theorem setDma_dma_other (s : State) {n m : Fin 4} (c : DmaChannel) (h : m ≠ n) :
    (s.setDma n c).dma.get m = s.dma.get m :=
  (Quad.get_set ..).trans (if_neg h)

section Trigger

variable {c : DmaChannel} {n : Fin 4} {ty : BitVec 2}

theorem DmaChannel.trigger_lost (h : c.enabledMask &&& typeBit n ty = 0) : c.trigger n ty = c := by
  unfold DmaChannel.trigger
  rw [dmaTypeBit_eq_typeBit]
  exact if_pos h

theorem fifoChannel_iff (n : Fin 4) : fifoChannel n = true ↔ n = 1 ∨ n = 2 := by revert n; decide

theorem DmaChannel.trigger_taken (h : c.enabledMask &&& typeBit n ty ≠ 0) :
    c.trigger n ty = { c with
      pendingMask := c.pendingMask ||| typeBit n ty
      fifoUnits :=
        if c.pendingMask &&& typeBit n ty = 0 ∧ ty = 3#2 ∧ (n = 1 ∨ n = 2) then 4 else c.fifoUnits } := by
  unfold DmaChannel.trigger
  rw [dmaTypeBit_eq_typeBit]
  refine (if_neg h).trans ?_
  simp only [Bool.and_eq_true, decide_eq_true_eq, beq_iff_eq, fifoChannel_iff, and_assoc]

end Trigger

/-- Settles O56: a trigger changes its channel, and arbitration follows. -/
theorem dmaTriggers : Obligations.DmaTriggers := fun s n ty =>
  ⟨requestTrigger_only s n ty, fun _ hm => setDma_dma_other s _ hm,
    fun h => (setDma_dma_same s n _).trans (DmaChannel.trigger_lost h),
    fun h => (setDma_dma_same s n _).trans (DmaChannel.trigger_taken h), arbitrate_arbitrated _, rfl⟩

/-! ## The control word -/

theorem Quad.set_set {α : Type} (q : Quad α) (n : Fin 4) (a b : α) : (q.set n a).set n b = q.set n b := by
  fin_cases n <;> rfl

/-- The channel that a written control word leaves: an enable edge with immediate timing is its own trigger (R714). -/
def DmaChannel.controlled (c : DmaChannel) (n : Fin 4) (new : Half) : DmaChannel :=
  if new.getLsbD 15 && !c.ctl.getLsbD 15 && ctlTiming new == 0#2 then (c.writeCtl n new).trigger n 0#2
  else c.writeCtl n new

theorem writeDmaCtl_eq (s : State) (n : Fin 4) (new : Half) :
    s.writeDmaCtl n new = (s.setDma n ((s.dma.get n).controlled n new)).arbitrate := by
  unfold State.writeDmaCtl DmaChannel.controlled
  dsimp only
  split
  · unfold State.requestTrigger
    rw [setDma_dma_same]
    unfold State.setDma
    rw [Quad.set_set]
  · rfl

section Controlled

variable {c : DmaChannel} {n : Fin 4} {new : Half}

/-- The enable edge latches the addresses and the count, and nothing is pending yet. -/
theorem DmaChannel.writeCtl_edge (hnew : new.getLsbD 15 = true) (hold : c.ctl.getLsbD 15 = false) :
    c.writeCtl n new = { c with
      ctl := new &&& 0xFFE0
      srcShadow := c.sad &&& dmaSrcMask n
      dstShadow := c.dad &&& dmaDstMask n
      cntShadow := c.cnt &&& dmaCntMask n
      enabledMask := typeBit n (ctlTiming new)
      pendingMask := 0 } := by
  unfold DmaChannel.writeCtl
  rw [hnew, hold, dmaTypeBit_eq_typeBit]; rfl

theorem DmaChannel.controlled_edge (hnew : new.getLsbD 15 = true) (hold : c.ctl.getLsbD 15 = false) :
    c.controlled n new = { c with
      ctl := new &&& 0xFFE0
      srcShadow := c.sad &&& dmaSrcMask n
      dstShadow := c.dad &&& dmaDstMask n
      cntShadow := c.cnt &&& dmaCntMask n
      enabledMask := typeBit n (ctlTiming new)
      pendingMask := if ctlTiming new = 0#2 then 1#4 else 0 } := by
  have himm : typeBit n 0#2 = 1#4 := if_neg fun h => absurd h.2 (by decide)
  unfold DmaChannel.controlled
  rw [DmaChannel.writeCtl_edge hnew hold, hnew, hold]
  by_cases ht : ctlTiming new = 0#2
  · rw [ht, himm]
    refine (DmaChannel.trigger_taken ?_).trans ?_
    · rw [himm]; exact (by decide : 1#4 &&& 1#4 ≠ 0)
    · simp [himm]
  · simp [ht]

/-- A channel that stays enabled is not latched again, and only pending triggers of its new type survive. -/
theorem DmaChannel.controlled_enabled (hnew : new.getLsbD 15 = true) (hold : c.ctl.getLsbD 15 = true) :
    c.controlled n new = { c with
      ctl := new &&& 0xFFE0
      enabledMask := typeBit n (ctlTiming new)
      pendingMask := c.pendingMask &&& typeBit n (ctlTiming new) } := by
  unfold DmaChannel.controlled DmaChannel.writeCtl
  rw [hnew, hold, dmaTypeBit_eq_typeBit]; rfl

theorem DmaChannel.controlled_disabled (hnew : new.getLsbD 15 = false) :
    c.controlled n new = { c with ctl := new &&& 0xFFE0, enabledMask := 0, pendingMask := 0 } := by
  unfold DmaChannel.controlled DmaChannel.writeCtl
  rw [hnew]; rfl

end Controlled

/-- Settles O54: the halfword is written to the whole register, whose write action changes the channel and arbitrates. -/
theorem dmaEnable : Obligations.DmaEnable := by
  intro s n v
  dsimp only
  obtain ⟨⟨hirq, hdma, harm, htim, hhalt, hstop⟩, hmem⟩ := memWrite_whole (w := .half) (.dmaCntH n) s v
  have hwrite : (IoReg.dmaCntH n).write s v v = s.writeDmaCtl n (v.setWidth 16) := rfl
  rw [hwrite, writeDmaCtl_eq] at hirq hdma harm htim hhalt hstop
  have hsame := (congrArg (Quad.get · n) hdma).trans (setDma_dma_same s n _)
  refine ⟨fun m hm => (congrArg (Quad.get · m) hdma).trans (setDma_dma_other s _ hm), hirq, htim, hmem, hhalt, hstop,
    arbitrated_of_armed (harm.trans (congrArg dmaWinner hdma.symm)), fun hnew hold => ?_,
    fun hnew hold => ?_, fun hnew => ?_⟩
  · exact hsame.trans (DmaChannel.controlled_edge hnew hold)
  · exact hsame.trans (DmaChannel.controlled_enabled hnew hold)
  · exact hsame.trans (DmaChannel.controlled_disabled hnew)

end Sys2Proof.Machine
end

section
/-! Proofs of the statements about 60_exceptions.md, fourth part: one DMA unit (R745 to R748). The unit moves a word or a
halfword, then counts; with the destination in memory the move leaves the channel alone. -/

namespace Sys2Proof.Machine

open Sys2Proof.Spec

/-! ## The move -/

/-- The bytes of a unit (R745). -/
def unitBytes (word : Bool) : Nat := if word then 4 else 2

/-- The width of a unit's accesses. -/
def unitWidth (word : Bool) : Width := if word then .word else .half

/-- The address of a unit's access (R745). -/
def unitAddr (word : Bool) (a : Word) : Word := if word then alignWord a else alignHalf a

/-- The value that a unit moves. -/
def State.unitValue (s : State) (word : Bool) (a : Word) : Word :=
  if word then s.read32 (alignWord a) else (s.read16 (alignHalf a)).setWidth 32

/-- What a unit leaves on the DMA bus: a halfword in both halves (R745). -/
def unitBusValue (word : Bool) (v : Word) : Word :=
  if unitBytes word = 4 then v else BitVec.ofNat 32 (v.toNat * 0x10001)

theorem unitWidth_bytes (word : Bool) : (unitWidth word).bytes = unitBytes word := by cases word <;> rfl

theorem unitSize_eq_ofNat (word : Bool) : unitSize word = BitVec.ofNat 32 (unitBytes word) := by cases word <;> rfl

theorem unitAddr_toNat (word : Bool) (a : Word) :
    (unitAddr word a).toNat = a.toNat / unitBytes word * unitBytes word := by
  cases word
  · exact alignHalf_toNat a
  · exact alignWord_toNat a

/-- An aligned unit does not run over the top of the address space. -/
theorem unitAddr_fits (word : Bool) (a : Word) : (unitAddr word a).toNat + unitBytes word ≤ 2 ^ 32 := by
  cases word
  · exact alignHalf_fits a
  · exact alignWord_fits a

theorem unitValue_eq (s : State) (word : Bool) (a : Word) :
    let src := a.toNat / unitBytes word * unitBytes word
    s.unitValue word a =
      if unitBytes word = 4 then wordAt s src else (0#16 ++ (s.byteAt (src + 1) ++ s.byteAt src) : Word) := by
  cases word
  · show (s.byteAt ((alignHalf a).toNat + 1) ++ s.byteAt (alignHalf a).toNat).setWidth 32 = _
    rw [alignHalf_toNat]
    exact BitVec.setWidth_eq_append (by decide)
  · show s.read32 (alignWord a) = wordAt s _
    unfold State.read32 wordAt
    rw [alignWord_toNat]
    rfl

theorem append_self_eq_ofNat (x : Half) : (x ++ x : Word) = BitVec.ofNat 32 ((x.setWidth 32).toNat * 0x10001) := by
  have hx := x.isLt
  refine BitVec.eq_of_toNat_eq ?_
  rw [BitVec.toNat_append, ← Nat.shiftLeft_add_eq_or_of_lt hx, Nat.shiftLeft_eq, BitVec.toNat_ofNat,
    BitVec.toNat_setWidth]
  omega

/-- Both sizes of a unit are one read and one write. -/
theorem unitMove_eq (s : State) (n : Fin 4) :
    let c := s.dma.get n
    let w := c.wordUnit n
    s.unitMove n =
      { (s.dmaRead n (unitAddr w c.srcShadow) (unitWidth w)).dmaWrite n (unitAddr w c.dstShadow) (unitWidth w)
          (s.unitValue w c.srcShadow) with
        dmaBusValue := unitBusValue w (s.unitValue w c.srcShadow) } := by
  unfold State.unitMove
  dsimp only
  cases (s.dma.get n).wordUnit n
  · rw [append_self_eq_ofNat]; rfl
  · rfl

/-- A write of the collaborator's bytes is what `StoredBytes` says of one store. -/
theorem memLanes_storedBytes {s t : State} {a k : Nat} {v : Word} (h : Memory.wf s.mem = true) (ha : a + k ≤ 2 ^ 32)
    (ht : t.mem = memLanes s.mem a v k) : StoredBytes s t [⟨a, k, v⟩] := by
  unfold StoredBytes
  rw [ht]
  refine ⟨fun w hw j hj hio => ?_, fun b hb => ?_⟩
  · obtain rfl := List.mem_singleton.mp hw
    exact (memLanes_read_same v h ha hj hio).trans (byteOf_eq_ofNat v j)
  · exact memLanes_read_other s.mem a v k (hb.imp_right fun hb => hb _ List.mem_cons_self)

section Move

variable (s : State) (n : Fin 4)

theorem unitMove_busValue :
    let w := (s.dma.get n).wordUnit n
    (s.unitMove n).dmaBusValue = unitBusValue w (s.unitValue w (s.dma.get n).srcShadow) := by
  rw [unitMove_eq]

theorem unitMove_storedBytes (h : Memory.wf s.mem = true) :
    let c := s.dma.get n
    let w := c.wordUnit n
    StoredBytes s (s.unitMove n) [⟨(unitAddr w c.dstShadow).toNat, unitBytes w, s.unitValue w c.srcShadow⟩] := by
  refine memLanes_storedBytes h (unitAddr_fits _ _) ?_
  rw [unitMove_eq]
  unfold State.dmaWrite State.dmaRead
  rw [unitWidth_bytes]
  exact writeBytes_mem ..

/-- With its destination in memory the move touches no device register. -/
theorem unitMove_only
    (hio : ∀ j < unitBytes ((s.dma.get n).wordUnit n),
      isIo ((unitAddr ((s.dma.get n).wordUnit n) (s.dma.get n).dstShadow).toNat + j) = false) :
    s.unitMove n = { s with
      mem := (s.unitMove n).mem, dmaBusValue := (s.unitMove n).dmaBusValue, busLast := (s.unitMove n).busLast,
      stepClocks := (s.unitMove n).stepClocks } := by
  rw [unitMove_eq]
  unfold State.dmaWrite State.dmaRead
  rw [unitWidth_bytes, writeBytes_of_mem _ ((touchesIo_eq_false_iff ..).mpr hio)]
  rfl

end Move

/-! ## The count -/

/-- A channel after a unit that moved from and to memory. -/
def DmaChannel.afterUnit (c : DmaChannel) (n : Fin 4) (fifo : Bool) (size : Word) : DmaChannel :=
  { c with
    srcShadow := movedShadow (ctlSrc c.ctl) c.srcShadow size (dmaSrcMask n)
    dstShadow := movedShadow (if fifo then 2#2 else ctlDst c.ctl) c.dstShadow size (dmaDstMask n)
    cntShadow := if fifo then c.cntShadow else (c.cntShadow - 1) &&& dmaCntMask n
    fifoUnits := if fifo then Fin.ofNat 5 (c.fifoUnits.val - 1) else c.fifoUnits }

section Count

variable (c : DmaChannel) (n : Fin 4) (fifo : Bool) (size : Word)

theorem countDown_advance_fst : ((c.advance n size fifo).countDown n fifo).1 = c.afterUnit n fifo size := by
  cases fifo <;> rfl

theorem countDown_advance_snd : ((c.advance n size fifo).countDown n fifo).2 = true ↔
    if fifo then c.fifoUnits.val - 1 = 0 else (c.afterUnit n fifo size).cntShadow = 0 := by
  cases fifo <;> exact beq_iff_eq

theorem DmaChannel.fifoMode_eq : c.fifoMode n = decide ((n = 1 ∨ n = 2) ∧ ctlTiming c.ctl = 3#2) := by
  unfold DmaChannel.fifoMode
  rw [Bool.eq_iff_iff, Bool.and_eq_true, fifoChannel_iff, beq_iff_eq, decide_eq_true_iff]

theorem DmaChannel.unitBytes_wordUnit :
    unitBytes (c.wordUnit n) = if c.fifoMode n = true ∨ c.ctl.getLsbD 10 = true then 4 else 2 := by
  unfold unitBytes DmaChannel.wordUnit
  simp only [Bool.or_eq_true]

/-- The end of a transfer, field by field (R747). -/
theorem DmaChannel.finish_eq : c.finish n fifo =
    if c.ctl.getLsbD 9 = true ∧ ctlTiming c.ctl ≠ 0#2 then
      { c with
        pendingMask := c.pendingMask &&& ~~~typeBit n (ctlTiming c.ctl)
        cntShadow := if fifo then c.cntShadow else c.cnt &&& dmaCntMask n
        dstShadow := if fifo = false ∧ ctlDst c.ctl = 3#2 then c.dad &&& dmaDstMask n else c.dstShadow }
    else { c with ctl := c.ctl &&& 0x7FFF, enabledMask := 0, pendingMask := 0 } := by
  unfold DmaChannel.finish
  simp only [dmaTypeBit_eq_typeBit, Bool.and_eq_true, bne_iff_ne, Bool.not_eq_true', beq_iff_eq]

end Count

/-! ## The unit -/

theorem dmaIrqBit_eq_ofNat (n : Fin 4) : dmaIrqBit n = BitVec.ofNat 14 (2 ^ (8 + n.val)) := by revert n; decide

/-- The end of a transfer of channel `n`, which holds `c` (R747). -/
theorem finalizeDma_spec (s : State) (n : Fin 4) (c : DmaChannel) (fifo : Bool) :
    let t := (s.setDma n c).finalizeDma n fifo
    Arbitrated t ∧
      t.irq = (if c.ctl.getLsbD 14 then
        { s.irq with ifl := s.irq.ifl ||| BitVec.ofNat 14 (2 ^ (8 + n.val)) } else s.irq) ∧
      t.dma.get n = c.finish n fifo ∧ ∀ m, m ≠ n → t.dma.get m = s.dma.get m := by
  unfold State.finalizeDma
  rw [setDma_dma_same, ← dmaIrqBit_eq_ofNat]
  dsimp only
  split
  · refine ⟨arbitrate_arbitrated _, rfl, setDma_dma_same .., fun m hm => ?_⟩
    exact (setDma_dma_other _ _ hm).trans (setDma_dma_other _ _ hm)
  · refine ⟨arbitrate_arbitrated _, rfl, setDma_dma_same .., fun m hm => ?_⟩
    exact (setDma_dma_other _ _ hm).trans (setDma_dma_other _ _ hm)

/-- The channel and the count start from what the move left (R745). -/
theorem performUnit_eq {s : State} {n : Fin 4} (h : (s.unitMove n).dma = s.dma) :
    let c := s.dma.get n
    let m := c.afterUnit n (c.fifoMode n) (BitVec.ofNat 32 (unitBytes (c.wordUnit n)))
    s.performUnit n =
      if (if c.fifoMode n then c.fifoUnits.val - 1 = 0 else m.cntShadow = 0) then
        ((s.unitMove n).setDma n m).finalizeDma n (c.fifoMode n)
      else (s.unitMove n).setDma n m := by
  unfold State.performUnit
  dsimp only
  rw [h, unitSize_eq_ofNat]
  simp only [countDown_advance_fst, countDown_advance_snd]

/-- Settles O55: the move, then the count, then at zero the end of the transfer. -/
theorem dmaUnit : Obligations.DmaUnit := by
  intro s n hwf c timing fifo size src dst v srcMask dstMask cntMask hio t moved done
  have hfifo : fifo = c.fifoMode n := (DmaChannel.fifoMode_eq c n).symm
  clear_value fifo
  subst hfifo
  have hsize : size = unitBytes (c.wordUnit n) := (DmaChannel.unitBytes_wordUnit c n).symm
  clear_value size
  subst hsize
  have hdst : dst = (unitAddr (c.wordUnit n) c.dstShadow).toNat := (unitAddr_toNat _ _).symm
  have hv : v = s.unitValue (c.wordUnit n) c.srcShadow := (unitValue_eq s _ _).symm
  clear_value dst v
  subst hdst hv
  have hmove := unitMove_only s n hio
  have hdma : (s.unitMove n).dma = s.dma := (congrArg State.dma hmove).trans rfl
  have hirq : (s.unitMove n).irq = s.irq := (congrArg State.irq hmove).trans rfl
  have harmed : (s.unitMove n).armed = s.armed := (congrArg State.armed hmove).trans rfl
  have hunit : t =
      if done then ((s.unitMove n).setDma n moved).finalizeDma n (c.fifoMode n) else (s.unitMove n).setDma n moved :=
    performUnit_eq hdma
  have hafter := performUnit_after_move s n
  have hmem : t.mem = (s.unitMove n).mem := (congrArg State.mem hafter).trans rfl
  have hbus : t.dmaBusValue = (s.unitMove n).dmaBusValue := (congrArg State.dmaBusValue hafter).trans rfl
  have hclocks : t.stepClocks = (s.unitMove n).stepClocks := (congrArg State.stepClocks hafter).trans rfl
  obtain ⟨harb, hreq, hchan, hrest⟩ := finalizeDma_spec (s.unitMove n) n moved (c.fifoMode n)
  have hother (m : Fin 4) (hm : m ≠ n) : t.dma.get m = s.dma.get m := by
    rw [hunit, ← hdma]
    split
    · exact hrest m hm
    · exact setDma_dma_other _ _ hm
  refine ⟨?bytes, ?bus, hother, ?only, fun hdone => ?more, fun hdone => ?last⟩
  case bytes =>
    have hstored := unitMove_storedBytes s n hwf
    unfold StoredBytes at hstored ⊢
    rwa [hmem]
  case bus => exact hbus.trans (unitMove_busValue s n)
  case only =>
    refine hafter.trans ?_
    rw [hmem, hbus, hclocks]
    conv_lhs => rw [hmove]
  case more =>
    rw [hunit, if_neg hdone]
    exact ⟨setDma_dma_same .., hirq, harmed⟩
  case last =>
    rw [hunit, if_pos hdone]
    refine ⟨harb, ?_, ?_⟩
    · rw [hreq, hirq]
    · rw [hchan, DmaChannel.finish_eq]; rfl

end Sys2Proof.Machine
end

section
/-! Proofs of the statements about 60_exceptions.md, fifth part: the timers (R770 to R773, R780). -/

namespace Sys2Proof.Machine

open Sys2Proof.Spec

/-! ## One tick -/

theorem timerIrqBit_eq_ofNat (n : Fin 4) : timerIrqBit n = BitVec.ofNat 14 (2 ^ (3 + n.val)) := by revert n; decide

/-- Timer `n` starts again from its reload: the request if flagged, and the event (R772). -/
def State.spill (s : State) (n : Fin 4) : State :=
  let t := s.timers.get n
  { s with
    timers := s.timers.set n { t with counter := t.reload }
    irq := if t.irqOnOverflow then { s.irq with ifl := s.irq.ifl ||| BitVec.ofNat 14 (2 ^ (3 + n.val)) } else s.irq
    out := s.out ++ [.timerOverflow n] }

theorem overflowEffects_eq_spill (s : State) (n : Fin 4) :
    (s.setTimer n { s.timers.get n with counter := (s.timers.get n).reload }).overflowEffects n = s.spill n := by
  unfold State.overflowEffects State.spill
  rw [setTimer_timers_get, if_pos rfl, ← timerIrqBit_eq_ofNat]
  dsimp only
  split <;> rfl

/-- What an overflow of timer `n` does to the timer above it (R773). -/
def State.cascadeAbove (s : State) : Fin 4 → State
  | 0 => cascadeInto 1 tick1 s
  | 1 => cascadeInto 2 tick2 s
  | 2 => cascadeInto 3 tick3 s
  | 3 => s

/-- A tick of any timer (R771). -/
theorem tick_eq (s : State) (n : Fin 4) : s.tick n =
    if (s.timers.get n).counter = 0xFFFF then (s.spill n).cascadeAbove n
    else s.setTimer n { s.timers.get n with counter := (s.timers.get n).counter + 1 } := by
  rw [← overflowEffects_eq_spill]
  fin_cases n <;> rfl

/-- Timer `m` is the one above timer `n`, and counts its overflows. -/
def State.Chained (s : State) (n m : Fin 4) : Prop :=
  m.val = n.val + 1 ∧ (s.timers.get m).enabled = true ∧ (s.timers.get m).cascade = true

theorem cascadeAbove_of_chained {s : State} {n m : Fin 4} (h : s.Chained n m) : s.cascadeAbove n = s.tick m := by
  obtain ⟨hm, he, hc⟩ := h
  have hcascade (f : State → State) : cascadeInto m f s = f s := by
    unfold cascadeInto
    rw [he, hc]; rfl
  match n, m with
  | 0, 1 => exact hcascade tick1
  | 1, 2 => exact hcascade tick2
  | 2, 3 => exact hcascade tick3

theorem cascadeAbove_of_not_chained {s : State} {n : Fin 4} (h : ∀ m, ¬s.Chained n m) : s.cascadeAbove n = s := by
  have hstay (m : Fin 4) (hm : m.val = n.val + 1) (f : State → State) : cascadeInto m f s = s := by
    refine if_neg fun hb => h m ⟨hm, ?_⟩
    rwa [Bool.and_eq_true] at hb
  match n with
  | 0 => exact hstay 1 rfl tick1
  | 1 => exact hstay 2 rfl tick2
  | 2 => exact hstay 3 rfl tick3
  | 3 => rfl

/-- The timer above is not the one that overflows. -/
theorem spill_chained_iff (s : State) (n m : Fin 4) : (s.spill n).Chained n m ↔ s.Chained n m := by
  refine and_congr_right fun hm => ?_
  have hne : m ≠ n := by rintro rfl; omega
  have hget : (s.spill n).timers.get m = s.timers.get m := (Quad.get_set ..).trans (if_neg hne)
  rw [hget]

/-- Settles O57: a tick counts or spills, and a spill goes to the timer above it. -/
theorem timerTick : Obligations.TimerTick := by
  refine fun s n => ⟨fun h => (tick_eq s n).trans (if_neg h), fun h => ?_⟩
  rw [(tick_eq s n).trans (if_pos h)]
  exact ⟨fun m hm => cascadeAbove_of_chained ((spill_chained_iff s n m).mpr hm),
    fun hm => cascadeAbove_of_not_chained fun m k => hm m ((spill_chained_iff s n m).mp k)⟩

/-! ## What a tick leaves alone -/

/-- The timers below `k` stay as they are, and what is emitted is of no such timer. -/
def KeepsBelow (k : Nat) (s t : State) : Prop :=
  (∀ m : Fin 4, m.val < k → t.timers.get m = s.timers.get m) ∧
    ∃ o, t.out = s.out ++ o ∧ ∀ m : Fin 4, m.val < k → OutEvent.timerOverflow m ∉ o

theorem KeepsBelow.of_same_out {k : Nat} {s t : State} (h : ∀ m : Fin 4, m.val < k → t.timers.get m = s.timers.get m)
    (ho : t.out = s.out) : KeepsBelow k s t :=
  ⟨h, [], ho.trans (List.append_nil _).symm, fun _ _ => List.not_mem_nil⟩

theorem KeepsBelow.refl (k : Nat) (s : State) : KeepsBelow k s s := .of_same_out (fun _ _ => rfl) rfl

theorem KeepsBelow.trans {k : Nat} {s t u : State} (h : KeepsBelow k s t) (h' : KeepsBelow k t u) :
    KeepsBelow k s u := by
  obtain ⟨htimers, o, ho, hnone⟩ := h
  obtain ⟨htimers', o', ho', hnone'⟩ := h'
  refine ⟨fun m hm => (htimers' m hm).trans (htimers m hm), o ++ o', ?_, fun m hm hmem => ?_⟩
  · rw [ho', ho, List.append_assoc]
  · exact (List.mem_append.mp hmem).elim (hnone m hm) (hnone' m hm)

theorem KeepsBelow.mono {j k : Nat} {s t : State} (h : KeepsBelow k s t) (hj : j ≤ k) : KeepsBelow j s t := by
  obtain ⟨htimers, o, ho, hnone⟩ := h
  exact ⟨fun m hm => htimers m (hm.trans_le hj), o, ho, fun m hm => hnone m (hm.trans_le hj)⟩

theorem KeepsBelow.count {k : Nat} {s t : State} (h : KeepsBelow k s t) {m : Fin 4} (hm : m.val < k) :
    t.out.count (.timerOverflow m) = s.out.count (.timerOverflow m) := by
  obtain ⟨-, o, ho, hnone⟩ := h
  rw [ho, List.count_append, List.count_eq_zero.mpr (hnone m hm), Nat.add_zero]

theorem setTimer_keepsBelow (s : State) (n : Fin 4) (t : Timer) : KeepsBelow n.val s (s.setTimer n t) :=
  .of_same_out (fun m hm => (setTimer_timers_get ..).trans (if_neg (by rintro rfl; omega))) rfl

theorem spill_keepsBelow (s : State) (n : Fin 4) : KeepsBelow n.val s (s.spill n) := by
  refine ⟨fun m hm => (Quad.get_set ..).trans (if_neg (by rintro rfl; omega)), _, rfl, fun m hm hmem => ?_⟩
  have hnm : m = n := OutEvent.timerOverflow.inj (List.mem_singleton.mp hmem)
  omega

theorem tick_keepsBelow_of_cascade {n : Fin 4} (h : ∀ s : State, KeepsBelow (n.val + 1) s (s.cascadeAbove n))
    (s : State) : KeepsBelow n.val s (s.tick n) := by
  rw [tick_eq]
  split
  · exact (spill_keepsBelow s n).trans ((h _).mono (Nat.le_succ _))
  · exact setTimer_keepsBelow s n _

theorem cascadeInto_keepsBelow {k : Nat} (n : Fin 4) {f : State → State} (hf : ∀ s, KeepsBelow k s (f s))
    (s : State) :
    KeepsBelow k s (cascadeInto n f s) := by
  unfold cascadeInto
  split
  · exact hf s
  · exact .refl k s

/-- A cascade goes upwards only (R772). -/
theorem cascadeAbove_keepsBelow (n : Fin 4) (s : State) : KeepsBelow (n.val + 1) s (s.cascadeAbove n) := by
  have h3 (s : State) : KeepsBelow 3 s (s.tick 3) := tick_keepsBelow_of_cascade (n := 3) (fun s => .refl 4 s) s
  have h2 (s : State) : KeepsBelow 2 s (s.tick 2) :=
    tick_keepsBelow_of_cascade (n := 2) (cascadeInto_keepsBelow 3 h3) s
  have h1 (s : State) : KeepsBelow 1 s (s.tick 1) :=
    tick_keepsBelow_of_cascade (n := 1) (cascadeInto_keepsBelow 2 h2) s
  match n with
  | 0 => exact cascadeInto_keepsBelow 1 h1 s
  | 1 => exact cascadeInto_keepsBelow 2 h2 s
  | 2 => exact cascadeInto_keepsBelow 3 h3 s
  | 3 => exact .refl 4 s

theorem tick_keepsBelow (s : State) (n : Fin 4) : KeepsBelow n.val s (s.tick n) :=
  tick_keepsBelow_of_cascade (cascadeAbove_keepsBelow n) s

/-! ## Many ticks -/

/-- A tick of the timer itself: its counter, and whether its event is emitted. -/
theorem tick_self (s : State) (n : Fin 4) :
    let t := s.timers.get n
    let full := t.counter = 0xFFFF
    (s.tick n).timers.get n = { t with counter := if full then t.reload else t.counter + 1 } ∧
      (s.tick n).out.count (.timerOverflow n) = s.out.count (.timerOverflow n) + if full then 1 else 0 := by
  dsimp only
  rw [tick_eq]
  split
  next h =>
    have habove := cascadeAbove_keepsBelow n (s.spill n)
    have hn := Nat.lt_succ_self n.val
    refine ⟨(habove.1 n hn).trans ((Quad.get_set ..).trans (if_pos rfl)), (habove.count hn).trans ?_⟩
    show (s.out ++ [OutEvent.timerOverflow n]).count _ = _
    rw [List.count_append, List.count_singleton_self]
  next h => exact ⟨(setTimer_timers_get ..).trans (if_pos rfl), rfl⟩

section ClosedForm

variable {c r : Nat} (hc : c < 0x10000) (hr : r < 0x10000) (k : Nat)
include hc hr

theorem counterAfter_lt : counterAfter c r k < 0x10000 := by
  unfold counterAfter
  have := Nat.mod_lt (k - (0x10000 - c)) (show 0x10000 - r > 0 by omega)
  split <;> omega

omit hc hr in
/-- Counting by one, the quotient goes up when the remainder is full. -/
theorem succ_div_mod (j : Nat) {d : Nat} (hd : 0 < d) :
    (j + 1) % d = (if j % d = d - 1 then 0 else j % d + 1) ∧
      (j + 1) / d = j / d + if j % d = d - 1 then 1 else 0 := by
  have hsplit := Nat.mod_add_div j d
  have hlt := Nat.mod_lt j hd
  refine and_comm.mp ((Nat.div_mod_unique hd).mpr ?_)
  split
  · rw [Nat.mul_add]; omega
  · simp only [Nat.add_zero]; omega

/-- One tick more of the closed form: from 0xFFFF the counter starts again at the reload. -/
theorem closedForm_succ :
    counterAfter c r (k + 1) = (if counterAfter c r k = 0xFFFF then r else counterAfter c r k + 1) ∧
      overflowsIn c r (k + 1) = overflowsIn c r k + if counterAfter c r k = 0xFFFF then 1 else 0 := by
  unfold counterAfter overflowsIn
  by_cases hk : k < 0x10000 - c
  · by_cases hk' : k + 1 < 0x10000 - c
    · have hfull : c + k ≠ 0xFFFF := by omega
      simp only [if_pos hk, if_pos hk', if_neg hfull]
      exact ⟨(Nat.add_assoc ..).symm, trivial⟩
    · have hfull : c + k = 0xFFFF := by omega
      have hj : k + 1 - (0x10000 - c) = 0 := by omega
      simp only [if_pos hk, if_neg hk', if_pos hfull, hj, Nat.zero_mod, Nat.zero_div]
      exact ⟨rfl, trivial⟩
  · have hk' : ¬k + 1 < 0x10000 - c := by omega
    have hj : k + 1 - (0x10000 - c) = k - (0x10000 - c) + 1 := by omega
    obtain ⟨hmod, hdiv⟩ := succ_div_mod (k - (0x10000 - c)) (show 0 < 0x10000 - r by omega)
    have hfull : r + (k - (0x10000 - c)) % (0x10000 - r) = 0xFFFF ↔
        (k - (0x10000 - c)) % (0x10000 - r) = 0x10000 - r - 1 := by omega
    simp only [if_neg hk, if_neg hk', hj, hmod, hdiv, hfull]
    refine ⟨?_, (Nat.add_assoc ..).symm⟩
    split <;> omega

end ClosedForm

theorem ofNat_eq_full_iff {x : Nat} (h : x < 0x10000) : BitVec.ofNat 16 x = 0xFFFF ↔ x = 0xFFFF := by
  rw [← BitVec.toNat_inj, BitVec.toNat_ofNat, Nat.mod_eq_of_lt h]; rfl

/-- A timer after many ticks. -/
theorem ticks_self (s : State) (n : Fin 4) (k : Nat) :
    let t := s.timers.get n
    (s.ticks n k).timers.get n =
        { t with counter := BitVec.ofNat 16 (counterAfter t.counter.toNat t.reload.toNat k) } ∧
      (s.ticks n k).out.count (.timerOverflow n) =
        s.out.count (.timerOverflow n) + overflowsIn t.counter.toNat t.reload.toNat k := by
  dsimp only
  have hc := (s.timers.get n).counter.isLt
  have hr := (s.timers.get n).reload.isLt
  induction k with
  | zero =>
    have hpos : 0 < 0x10000 - (s.timers.get n).counter.toNat := by omega
    simp [State.ticks, counterAfter, overflowsIn, hpos]
  | succ k ih =>
    obtain ⟨htimer, hcount⟩ := ih
    obtain ⟨hself, hevent⟩ := tick_self (s.ticks n k) n
    obtain ⟨hcounter, hoverflows⟩ := closedForm_succ hc hr k
    have hfull := ofNat_eq_full_iff (counterAfter_lt hc hr k)
    rw [htimer] at hself hevent
    simp only [hfull] at hself hevent
    unfold State.ticks
    rw [hself, hevent, hcount, hcounter, hoverflows, Nat.add_assoc]
    refine ⟨?_, rfl⟩
    split
    · simp
    · rw [BitVec.ofNat_add]; rfl

theorem ticks_keepsBelow (s : State) (n : Fin 4) (k : Nat) : KeepsBelow n.val s (s.ticks n k) := by
  induction k with
  | zero => exact .refl _ s
  | succ k ih => exact ih.trans (tick_keepsBelow _ n)

/-- Settles O58: tick by tick. -/
theorem timerClosedForm : Obligations.TimerClosedForm := fun s n k =>
  ⟨congrArg Timer.counter (ticks_self s n k).1, (ticks_self s n k).2, (ticks_keepsBelow s n k).1⟩

/-! ## Prediction -/

section UpToOverflow

variable (s : State) (n : Fin 4)

/-- Before the counter is full it only goes up. -/
theorem ticks_counter_of_lt {k : Nat} (h : k < 0x10000 - (s.timers.get n).counter.toNat) :
    ((s.ticks n k).timers.get n).counter = BitVec.ofNat 16 ((s.timers.get n).counter.toNat + k) := by
  rw [(ticks_self s n k).1]
  exact congrArg (BitVec.ofNat 16) (if_pos h)

theorem ticks_out_of_lt {k : Nat} (h : k < 0x10000 - (s.timers.get n).counter.toNat) : (s.ticks n k).out = s.out := by
  induction k with
  | zero => rfl
  | succ k ih =>
    have hk : k < 0x10000 - (s.timers.get n).counter.toNat := by omega
    have hnot : ((s.ticks n k).timers.get n).counter ≠ 0xFFFF := by
      rw [ticks_counter_of_lt s n hk, Ne, ofNat_eq_full_iff (by omega)]
      omega
    unfold State.ticks
    rw [tick_eq, if_neg hnot]
    exact ih hk

/-- The tick that finds the counter full emits the overflow. -/
theorem ticks_overflow_mem :
    OutEvent.timerOverflow n ∈ (s.ticks n (0x10000 - (s.timers.get n).counter.toNat)).out.drop s.out.length := by
  have hlt := (s.timers.get n).counter.isLt
  obtain ⟨k, hk⟩ : ∃ k, 0x10000 - (s.timers.get n).counter.toNat = k + 1 := Nat.exists_eq_add_one.mpr (by omega)
  have hfull : ((s.ticks n k).timers.get n).counter = 0xFFFF := by
    rw [ticks_counter_of_lt s n (by omega), ofNat_eq_full_iff (by omega)]
    omega
  obtain ⟨-, o, ho, -⟩ := cascadeAbove_keepsBelow n ((s.ticks n k).spill n)
  have hspill : ((s.ticks n k).spill n).out = s.out ++ [.timerOverflow n] :=
    congrArg (· ++ _) (ticks_out_of_lt s n (by omega))
  rw [hk]
  unfold State.ticks
  rw [tick_eq, if_pos hfull, ho, hspill, List.append_assoc, List.drop_left]
  exact List.mem_cons_self

end UpToOverflow

section Predicted

variable {s : State} {n : Fin 4} (h : (s.timers.get n).clocked n = true)
include h

theorem timerClocks_of_clocked (c : Nat) :
    let t := s.timers.get n
    let sum := t.precounter.toNat + c
    let d := 2 ^ prescaleShift t.prescale
    s.timerClocks n c = (s.setTimer n { t with precounter := BitVec.ofNat 32 (sum % d) }).ticks n (sum / d) :=
  if_pos h

/-- The first overflow of a timer that counts prescaled clocks is as many ticks ahead as the counter lacks (R780). -/
theorem nextOverflow_of_clocked :
    let t := s.timers.get n
    s.nextOverflow n 1 = some ((0x10000 - t.counter.toNat) * 2 ^ prescaleShift t.prescale - t.precounter.toNat) := by
  have henabled : (s.timers.get n).enabled = true := (Bool.and_eq_true_iff.mp h).1
  have hpredict (below : Nat → Option Nat) : (s.timers.get n).predict n below 1 =
      some ((0x10000 - (s.timers.get n).counter.toNat) * 2 ^ prescaleShift (s.timers.get n).prescale -
        (s.timers.get n).precounter.toNat) := by
    unfold Timer.predict Timer.ticksTo
    rw [henabled, h, Nat.sub_self, Nat.zero_mul]; rfl
  unfold State.nextOverflow
  dsimp only
  match n with
  | 0 | 1 | 2 | 3 => exact hpredict _

end Predicted

/-- Settles O59: the predicted clocks are just those that fill the ticks the counter lacks. -/
theorem predictionExact : Obligations.PredictionExact := by
  intro s n d
  dsimp only
  intro hclocked hpre hnext
  rw [nextOverflow_of_clocked hclocked] at hnext
  obtain rfl := Option.some.inj hnext
  have htick : 0 < 2 ^ prescaleShift (s.timers.get n).prescale := Nat.two_pow_pos _
  have hmissing : 0 < 0x10000 - (s.timers.get n).counter.toNat := Nat.sub_pos_of_lt (s.timers.get n).counter.isLt
  have hcounter (x : Word) : ((s.setTimer n { s.timers.get n with precounter := x }).timers.get n).counter =
      (s.timers.get n).counter := by rw [setTimer_timers_get, if_pos rfl]
  have hpos := Nat.le_mul_of_pos_left (2 ^ prescaleShift (s.timers.get n).prescale) hmissing
  refine ⟨fun c hc => ?fewer, ?exactly⟩
  case fewer =>
    rw [timerClocks_of_clocked hclocked]
    refine (ticks_out_of_lt _ n ?_).trans rfl
    rw [hcounter, Nat.div_lt_iff_lt_mul htick]
    omega
  case exactly =>
    rw [timerClocks_of_clocked hclocked, Nat.add_sub_cancel' (hpre.le.trans hpos), Nat.mul_div_cancel _ htick]
    generalize BitVec.ofNat 32 _ = x
    have key := ticks_overflow_mem (s.setTimer n { s.timers.get n with precounter := x }) n
    rwa [hcounter] at key

end Sys2Proof.Machine
end

section
/-! Proofs of the statements about 60_exceptions.md, sixth part: time goes on, and `advance` spends its budget (R650,
R652). -/

namespace Sys2Proof.Machine

open Sys2Proof.Spec

/-! ## What passes no time -/

/-- An operation inside a step: the clock, the target of `advance` and the output are as they were. -/
def Timeless (s t : State) : Prop := t.budgetEnd = s.budgetEnd ∧ t.clock = s.clock ∧ t.out = s.out

theorem Timeless.refl (s : State) : Timeless s s := ⟨rfl, rfl, rfl⟩

theorem Timeless.trans {s t u : State} (h : Timeless s t) (h' : Timeless t u) : Timeless s u :=
  ⟨h'.1.trans h.1, h'.2.1.trans h.2.1, h'.2.2.trans h.2.2⟩

section Timeless

variable {i : Instr} {s t : State}

theorem Work.timeless (h : Work i s t) : Timeless s t := by
  induction h with
  | start => exact .refl s
  | setReg _ r v ih => exact ih.trans ⟨setReg_budgetEnd .., setReg_clock .., setReg_out ..⟩
  | setUserReg _ _ r v ih => exact ih.trans ⟨setUserReg_budgetEnd .., setUserReg_clock .., setUserReg_out ..⟩
  | branch _ a ih => exact ih
  | flags _ hp ih => exact ih
  | access _ g a w k ih => exact ih
  | store _ k a v ih => exact ih.trans ⟨store_budgetEnd .., store_clock .., store_out ..⟩

theorem enterException_timeless (s : State) (e : Exc) (lr : Word) : Timeless s (s.enterException e lr) :=
  ⟨enterException_budgetEnd .., enterException_clock .., enterException_out ..⟩

theorem msrWrite_timeless (s : State) (R : Bool) (f : BitVec 4) (op : Word) : Timeless s (s.msrWrite R f op) := by
  cases R
  · exact .refl s
  · rw [msrWrite_spsr_only]; exact .refl s

theorem Effect.timeless (h : Effect i s t) : Timeless s t := by
  induction h with
  | work h => exact h.timeless
  | @restore t h a => exact h.timeless.trans (by rw [restoreCpsr_only]; exact .refl t)
  | msr R f op => exact msrWrite_timeless s R f op
  | exchange v => exact .refl s
  | swi _ => exact enterException_timeless ..
  | undefined _ => exact enterException_timeless (s.internal 1) _ _
  | internal _ k ih => exact ih

theorem performUnit_timeless (s : State) (n : Fin 4) : Timeless s (s.performUnit n) := by
  have hmove : Timeless s (s.unitMove n) := by
    rw [unitMove_eq]
    exact ⟨writeBytes_budgetEnd .., writeBytes_clock .., writeBytes_out ..⟩
  rw [performUnit_after_move]
  exact hmove

theorem applyEnv_timeless (s : State) (e : EnvEvent) : Timeless s (s.applyEnv e) := by
  cases e <;> exact .refl s

theorem deliverEnv_timeless (s : State) : Timeless s s.deliverEnv := by
  have hfold (due : List (Nat × EnvEvent)) : ∀ u : State, Timeless u (due.foldl (fun s x => s.applyEnv x.2) u) := by
    induction due with
    | nil => exact .refl
    | cons x rest ih => exact fun u => (applyEnv_timeless u x.2).trans (ih _)
  exact hfold _ { s with env := _ }

theorem endInstr_timeless (s : State) (w f : Word) : Timeless s (s.endInstr w f) := by
  unfold State.endInstr
  split <;> exact .refl s

end Timeless

/-! ## Time goes on -/

/-- The target of `advance` stays, the clock does not go back, and the output only grows. -/
def Onward (s t : State) : Prop := t.budgetEnd = s.budgetEnd ∧ s.clock ≤ t.clock ∧ s.out <+: t.out

theorem Onward.trans {s t u : State} (h : Onward s t) (h' : Onward t u) : Onward s u :=
  ⟨h'.1.trans h.1, h.2.1.trans h'.2.1, h.2.2.trans h'.2.2⟩

theorem Timeless.onward {s t : State} (h : Timeless s t) : Onward s t :=
  ⟨h.1, h.2.1.ge, h.2.2 ▸ List.prefix_rfl⟩

theorem timerClocks_out_prefix (s : State) (n : Fin 4) (c : Nat) : s.out <+: (s.timerClocks n c).out := by
  unfold State.timerClocks
  dsimp only
  split
  · obtain ⟨-, o, ho, -⟩ := ticks_keepsBelow (s.setTimer n _) n _
    rw [ho]
    exact List.prefix_append ..
  · exact List.prefix_rfl

theorem timerAdvance_out_prefix (s : State) (c : Nat) : s.out <+: (s.timerAdvance c).out :=
  (((timerClocks_out_prefix s 0 c).trans (timerClocks_out_prefix _ 1 c)).trans (timerClocks_out_prefix _ 2 c)).trans
    (timerClocks_out_prefix _ 3 c)

theorem charge_onward (s : State) (c : Nat) : Onward s (s.charge c) :=
  ⟨charge_budgetEnd .., by rw [charge_clock]; exact Nat.le_add_right ..,
    timerAdvance_out_prefix { s with clock := s.clock + c } c⟩

theorem settle_onward (s : State) : Onward s s.settle := charge_onward { s with stepClocks := 0 } _

theorem normalStep_onward {s t : State} (h : normalStep s = .next t) : Onward s t := by
  obtain ⟨u, hu, heff⟩ := exec_does (slotInstr s.cpsr.t s.slotExec) s.beginInstr
  obtain rfl := Host.Outcome.next.inj ((normalStep_of_next hu).symm.trans h)
  have hinstr : Timeless s u := heff.timeless
  exact (hinstr.trans (endInstr_timeless u _ _)).onward.trans (settle_onward _)

theorem haltOrRun_onward {s t : State} (h : haltOrRun s = .next t) : Onward s t := by
  unfold haltOrRun irqOrInstr at h
  split at h
  · obtain rfl := Host.Outcome.next.inj h
    exact charge_onward s 1
  · split at h
    · obtain rfl := Host.Outcome.next.inj h
      exact (enterException_timeless { s with halted := false } _ _).onward
    · have honward := normalStep_onward h
      exact honward

theorem dispatchRest_onward {s t : State} (h : dispatchRest s = .next t) : Onward s t := by
  unfold dispatchRest at h
  split at h
  · obtain rfl := Host.Outcome.next.inj h
    exact ⟨rfl, Nat.le_succ _, List.prefix_rfl⟩
  · split at h
    next n _ =>
      obtain rfl := Host.Outcome.next.inj h
      exact (performUnit_timeless s n).onward.trans (settle_onward _)
    · split at h
      · obtain rfl := Host.Outcome.next.inj h
        exact settle_onward s.bubbleStep
      · exact haltOrRun_onward h

theorem step_onward {s t : State} (h : step s = .next t) : Onward s t :=
  (deliverEnv_timeless s).onward.trans (dispatchRest_onward h)

/-! ## The budget -/

theorem runBudget_of_spent {s : State} (h : s.budgetEnd ≤ s.clock) (fuel : Nat) :
    runBudget fuel s = some (.next s) := by
  unfold runBudget
  exact if_pos h

/-- The loop ends at once, or takes one step and goes on. -/
theorem runBudget_cases {fuel : Nat} {s t : State} (h : runBudget fuel s = some (.next t)) :
    (s.budgetEnd ≤ s.clock ∧ s = t) ∨
      ∃ k u, fuel = k + 1 ∧ step s = .next u ∧ runBudget k u = some (.next t) := by
  by_cases hspent : s.budgetEnd ≤ s.clock
  · rw [runBudget_of_spent hspent] at h
    exact .inl ⟨hspent, Host.Outcome.next.inj (Option.some.inj h)⟩
  · unfold runBudget at h
    rw [if_neg hspent] at h
    cases fuel with
    | zero => exact absurd h nofun
    | succ k =>
      dsimp only at h
      split at h
      next u hu => exact .inr ⟨k, u, rfl, hu, h⟩
      · exact absurd h nofun
      · exact absurd h nofun

/-- The loop ends where the clock has reached the target. -/
theorem runBudget_next {fuel : Nat} {s t : State} (h : runBudget fuel s = some (.next t)) :
    Onward s t ∧ t.budgetEnd ≤ t.clock := by
  induction fuel using Nat.strong_induction_on generalizing s with
  | _ fuel ih =>
    rcases runBudget_cases h with ⟨hspent, rfl⟩ | ⟨k, u, rfl, hu, hrest⟩
    · exact ⟨(Timeless.refl s).onward, hspent⟩
    · obtain ⟨honward, hspent⟩ := ih k (Nat.lt_succ_self k) hrest
      exact ⟨(step_onward hu).trans honward, hspent⟩

/-- `advance` answers a state when its loop does, and ends there. -/
theorem advance_next {budget fuel : Nat} {s t : State} (h : advance budget fuel s = some (.next t)) :
    ∃ u, runBudget fuel { s with iterationEnd := false, budgetEnd := s.budgetEnd + budget } = some (.next u) ∧
      u.endAdvance = t := by
  unfold advance at h
  split at h
  next u hu => exact ⟨u, hu, Host.Outcome.next.inj (Option.some.inj h)⟩
  next hnot => exact absurd h (hnot t)

/-- Settles O60: time goes on until the loop ends, and the end of the call takes the overshoot. -/
theorem advanceBudget : Obligations.AdvanceBudget := by
  intro budget fuel s t h
  obtain ⟨u, hu, rfl⟩ := advance_next h
  obtain ⟨⟨hend, hclock, o, ho⟩, hspent⟩ := runBudget_next hu
  refine ⟨hend, (Nat.add_sub_cancel' hspent).symm, rfl, hclock, ⟨o, congrArg (· ++ _) ho.symm⟩,
    fun hdone => ?_⟩
  obtain rfl := Host.Outcome.next.inj (Option.some.inj ((runBudget_of_spent hdone fuel).symm.trans hu))
  exact ⟨rfl, rfl, rfl, rfl⟩

end Sys2Proof.Machine
end

section
/-! Proofs of the statements about 70_reset_and_hazards.md: the reset states (R801) and the cycles of a multiply
(R834). -/

namespace Sys2Proof.Machine

open Sys2Proof.Spec

theorem DmaChannel.ok_zero (n : Fin 4) : DmaChannel.zero.Ok n :=
  ⟨by decide, by revert n; decide, by decide, by revert n; decide, by revert n; decide, by revert n; decide,
    fun _ h => absurd h zero_getLsbD_three⟩

theorem Timer.ok_zero (n : Fin 4) : Timer.zero.Ok n := ⟨fun _ => by decide, by decide⟩

theorem Quad.get_all {α : Type} (a : α) (n : Fin 4) : (Quad.all a).get n = a := by
  fin_cases n <;> rfl

/-- Settles O45: both states are literals in ARM state with every device at 0. -/
theorem invariantAtReset : Obligations.InvariantAtReset := by
  have hdma (n : Fin 4) : ((Quad.all DmaChannel.zero).get n).Ok n := by
    rw [Quad.get_all]; exact DmaChannel.ok_zero n
  have htimers (n : Fin 4) : ((Quad.all Timer.zero).get n).Ok n := by
    rw [Quad.get_all]; exact Timer.ok_zero n
  intro skipBoot
  cases skipBoot <;> exact ⟨rfl, by decide, nofun, nofun, rfl, hdma, htimers, rfl⟩

/-- Settles O18: a run of equal bits above the low bytes is a bound on the operand. -/
theorem multiplyCycles : Obligations.MultiplyCycles := mulCycles_eq_earlyCycles

end Sys2Proof.Machine
end
